-- ==== Sys2Proof/Word.lean ====
section
/-!
DEFINITION. The words the engine's ports carry (20_memory.md section 1): plain names for bit-vector widths.
-/

namespace Sys2Proof

/-- The command word, 32 bits, unsigned (30_encoding.md R38). -/
abbrev Command := BitVec 32

/-- The operation select `op`, 3 bits (30_encoding.md R37). -/
abbrev Select := BitVec 3

/-- One transaction `T`: `op = T[34:32]`, `command = T[31:0]` (30_encoding.md R37). -/
abbrev Transaction := BitVec 35

/-- An IEEE 754 binary32 value as its 32-bit word (10_state.md R20, D8). -/
abbrev F32 := BitVec 32

end Sys2Proof
end

