-- ==== Sys2Proof/Syntax.lean ====
section
/-!
DEFINITION. The engine's operations (one constructor per row of spec/opcode_table.json), the four
pseudo-forms of 30_encoding.md R48, and the actions of the host (00_scope.md R2).
-/

namespace Sys2Proof

/-- The rows of the opcode table. An operation carries its extracted operand fields, never the ignored
command bits, which are don't-care (30_encoding.md R45). -/
inductive Instr where
  /-- `Reset` (R87), no operand (R43) -/
  | reset
  /-- `SetDisplayStart` (R50): `startX` (even) and `startY` (R39) -/
  | setDisplayStart (startX : BitVec 10) (startY : BitVec 9)
  /-- `SetHorizontalRange` (R51): `newX1`, `newX2` (R40) -/
  | setHorizontalRange (newX1 newX2 : BitVec 12)
  /-- `SetVerticalRange` (R52): `newY1`, `newY2` (R41) -/
  | setVerticalRange (newY1 newY2 : BitVec 10)
  /-- `SetMode` (R53): `newMode` (R42) -/
  | setMode (newMode : BitVec 8)
  /-- `RefreshSmoothingAdjustment` (R71), no operand (R43) -/
  | refreshSmoothingAdjustment
  /-- `WriteEnabled` (R55): the new value of `enabled` (R44) -/
  | writeEnabled (enabled : Bool)
  /-- the reserved select 7 (R46) -/
  | reserved7
  deriving DecidableEq, Repr

/-- The pseudo-forms of R48, with the fields they name. -/
inductive PseudoForm where
  | displayStart (x : BitVec 10) (y : BitVec 9)
  | horizontalRange (x1 x2 : BitVec 12)
  | verticalRange (y1 y2 : BitVec 10)
  | mode (hres1 : BitVec 2) (hres2 pal c24 il : Bool)
  deriving DecidableEq, Repr

/-- The values of the "current video standard" enum (10_state.md R25). -/
inductive VideoStd where
  | ntsc
  | pal
  deriving DecidableEq, Repr

/-- The twelve read ports (10_state.md R26). -/
inductive Port where
  | startX | startY | sizeW | sizeH
  | startNX | startNY | sizeNX | sizeNY
  | isPal | is24Bit | isInterlaced | enabled
  deriving DecidableEq, Repr

/-- One action of the host: it issues a transaction, drives an input (R48), or reads a port (R26);
`setVideoStd` is another party's write of the configuration store (R25). -/
inductive HostAction where
  | transact (word : Transaction)
  | setSmooth (value : Bool)
  | setAutoStd (value : Bool)
  | setVideoStd (value : VideoStd)
  | read (port : Port)
  deriving DecidableEq, Repr

end Sys2Proof
end

