-- ==== Sys2Proof/WellFormed.lean ====
section
/-!
DEFINITION. Which terms of `Instr` and `PseudoForm` stand for something the encoding can carry.
-/

namespace Sys2Proof

/-- The one check an operation needs beside its field widths: `startX` has bit 0 equal to 0
(30_encoding.md R39). -/
def Instr.wellFormed : Instr → Bool
  | .setDisplayStart x _ => !x[0]
  | .reset => true
  | .setHorizontalRange _ _ => true
  | .setVerticalRange _ _ => true
  | .setMode _ => true
  | .refreshSmoothingAdjustment => true
  | .writeEnabled _ => true
  | .reserved7 => true

/-- R48: `SetDisplayStart x=X, y=Y` is a pseudo-form "with `X` even". -/
def PseudoForm.wellFormed : PseudoForm → Bool
  | .displayStart x _ => !x[0]
  | .horizontalRange _ _ => true
  | .verticalRange _ _ => true
  | .mode _ _ _ _ _ => true

end Sys2Proof
end

