-- ==== Sys2Proof/Decode.lean ====
section
/-!
DEFINITION. The transaction word read and written (30_encoding.md R37 to R48), and a host program's text (R48).
-/

namespace Sys2Proof

/-- `op = T[34:32]` (R37). -/
def selectOf (t : Transaction) : Select := t.extractLsb' 32 3

/-- `command = T[31:0]` (R37). -/
def commandOf (t : Transaction) : Command := t.extractLsb' 0 32

/-- The word with a given select and command (R37). -/
def transaction (op : Select) (command : Command) : Transaction := op ++ command

/-- `startX = command & 0x3FE` (R39). -/
def startXField (c : Command) : BitVec 10 := c.extractLsb' 0 10 &&& 0x3FE#10

/-- `startY = (command >> 10) & 0x1FF` (R39). -/
def startYField (c : Command) : BitVec 9 := c.extractLsb' 10 9

/-- `newX1 = command & 0xFFF` (R40). -/
def newX1Field (c : Command) : BitVec 12 := c.extractLsb' 0 12

/-- `newX2 = (command >> 12) & 0xFFF` (R40). -/
def newX2Field (c : Command) : BitVec 12 := c.extractLsb' 12 12

/-- `newY1 = command & 0x3FF` (R41). -/
def newY1Field (c : Command) : BitVec 10 := c.extractLsb' 0 10

/-- `newY2 = (command >> 10) & 0x3FF` (R41). -/
def newY2Field (c : Command) : BitVec 10 := c.extractLsb' 10 10

/-- `newMode = command & 0xFF` (R42). -/
def newModeField (c : Command) : BitVec 8 := c.extractLsb' 0 8

/-- The new value of `enabled`, bit 0 (R44). -/
def enabledField (command : Command) : Bool := command[0]

/-- The operation a select and a command word name. Total: "A decoder therefore never rejects a
transaction whose `op` is 0 to 6" (R38), and select 7 is the reserved row (R46). -/
def decode (t : Transaction) : Instr :=
  let c := commandOf t
  match (selectOf t).toNat with
  | 0 => .reset
  | 1 => .setDisplayStart (startXField c) (startYField c)
  | 2 => .setHorizontalRange (newX1Field c) (newX2Field c)
  | 3 => .setVerticalRange (newY1Field c) (newY2Field c)
  | 4 => .setMode (newModeField c)
  | 5 => .refreshSmoothingAdjustment
  | 6 => .writeEnabled (enabledField c)
  | _ => .reserved7

/-- Why a number is no transaction. -/
inductive DecodeReject where
  /-- it has a bit above bit 34, and the ports `op` and `command` have no wire for it (R37, R47) -/
  | widerThanATransaction
  deriving DecidableEq, Repr

/-- The decoder on any number, rejecting by name. -/
def decodeNumber (w : Nat) : Except DecodeReject Instr :=
  if w < 2 ^ 35 then .ok (decode (BitVec.ofNat 35 w)) else .error .widerThanATransaction

/-- The decoder on a row's bits as spec/opcode_table.json numbers them (35 bits, carried in 40). -/
def decodeTableWord (nbits w : Nat) : Option Instr :=
  match decodeNumber (w % 2 ^ nbits) with
  | .ok i => some i
  | .error _ => none

/-- The select code of each row (R37). -/
def selectCode : Instr → Select
  | .reset => 0
  | .setDisplayStart _ _ => 1
  | .setHorizontalRange _ _ => 2
  | .setVerticalRange _ _ => 3
  | .setMode _ => 4
  | .refreshSmoothingAdjustment => 5
  | .writeEnabled _ => 6
  | .reserved7 => 7

/-- The command word of each row with every ignored bit 0, from the patterns of 30_encoding.md section 6. -/
def commandWord : Instr → Command
  | .reset => 0
  | .setDisplayStart x y => (y.setWidth 32 <<< 10) ||| (x.setWidth 32)
  | .setHorizontalRange x1 x2 => (x2.setWidth 32 <<< 12) ||| (x1.setWidth 32)
  | .setVerticalRange y1 y2 => (y2.setWidth 32 <<< 10) ||| (y1.setWidth 32)
  | .setMode m => m.setWidth 32
  | .refreshSmoothingAdjustment => 0
  | .writeEnabled e => (BitVec.ofBool e).setWidth 32
  | .reserved7 => 0

/-- The word of a well-formed operation. -/
def encode (i : Instr) : Transaction := transaction (selectCode i) (commandWord i)

/-- The mode byte of the named fields: `(G << 6) | (I << 5) | (C << 4) | (P << 3) | H` (R48). -/
def modeByte (hres1 : BitVec 2) (hres2 pal c24 il : Bool) : BitVec 8 :=
  ((BitVec.ofBool hres2).setWidth 8 <<< 6) ||| ((BitVec.ofBool il).setWidth 8 <<< 5)
    ||| ((BitVec.ofBool c24).setWidth 8 <<< 4) ||| ((BitVec.ofBool pal).setWidth 8 <<< 3)
    ||| hres1.setWidth 8

/-- The plain form a pseudo-form expands to (R48). -/
def expand : PseudoForm → Instr
  | .displayStart x y => .setDisplayStart x y
  | .horizontalRange x1 x2 => .setHorizontalRange x1 x2
  | .verticalRange y1 y2 => .setVerticalRange y1 y2
  | .mode h g p c i => .setMode (modeByte h g p c i)

/-- The operation's name in a host program (R48). R48 gives a name to the seven operations only. DESIGN CHOICE, safe
(log entry 23): the reserved select is written by its mnemonic of spec/opcode_table.json. -/
def operationName : Instr → String
  | .reset => "Reset"
  | .setDisplayStart _ _ => "SetDisplayStart"
  | .setHorizontalRange _ _ => "SetHorizontalRange"
  | .setVerticalRange _ _ => "SetVerticalRange"
  | .setMode _ => "SetMode"
  | .refreshSmoothingAdjustment => "RefreshSmoothingAdjustment"
  | .writeEnabled _ => "WriteEnabled"
  | .reserved7 => "RESERVED_7"

/-- Whether a line shows the command word: "where one is used" (R48; R43 for the two without). DESIGN CHOICE, safe
(log entry 23): the line of the reserved select shows none. -/
def usesCommand : Instr → Bool
  | .reset => false
  | .refreshSmoothingAdjustment => false
  | .reserved7 => false
  | .setDisplayStart _ _ => true
  | .setHorizontalRange _ _ => true
  | .setVerticalRange _ _ => true
  | .setMode _ => true
  | .writeEnabled _ => true

/-- One hexadecimal digit, capitals as in R48. -/
def hexDigit (d : Nat) : Char :=
  if d < 10 then Char.ofNat (48 + d) else Char.ofNat (55 + d)

/-- A command word as eight hexadecimal digits. -/
def hexWord (c : Command) : List Char :=
  [7, 6, 5, 4, 3, 2, 1, 0].map fun k => hexDigit (c.toNat / 16 ^ k % 16)

/-- One line of a host program: the operation's name, then the command word in hexadecimal where one is
used (R48). The line of a select-7 transaction is the model's own (log entry 23). -/
def lineOf (t : Transaction) : List Char :=
  let i := decode t
  (operationName i).toList ++ (if usesCommand i then " 0x".toList ++ hexWord (commandOf t) else [])

/-- The line of a host action: R48's for the seven operations, `cfg.smooth := 0|1` and `cfg.autoStd := 0|1`; the
model's own for a select-7 transaction (DESIGN CHOICE, safe, log entry 23); none for the two actions R48 does not
name. -/
def hostLine : HostAction → Option (List Char)
  | .transact t => some (lineOf t)
  | .setSmooth b => some ("cfg.smooth := ".toList ++ [if b then '1' else '0'])
  | .setAutoStd b => some ("cfg.autoStd := ".toList ++ [if b then '1' else '0'])
  | .setVideoStd _ => none
  | .read _ => none

end Sys2Proof
end

