-- ==== Sys2Proof/Machine/State.lean ====
section
/-!
DEFINITION. All the state of the engine (10_state.md), the configuration store's three items, the host's
remaining actions, the state after reset, and the reasons a step can stop.
-/

namespace Sys2Proof.Machine

/-- `DS.start` (R17). -/
structure Start where
  x : BitVec 10
  y : BitVec 9
  deriving DecidableEq, Repr

/-- `DS.size` (R18; 10 bits each by D11). -/
structure Size where
  w : BitVec 10
  h : BitVec 10
  deriving DecidableEq, Repr

/-- A normalized pair, two independent binary32 scalars (R20). -/
structure NormPair where
  x : F32
  y : F32
  deriving DecidableEq, Repr

/-- `DS`, the thirteen fields of 10_state.md R10. -/
structure DisplayState where
  drawMode : BitVec 8
  isPal : Bool
  is24Bit : Bool
  isInterlaced : Bool
  enabled : Bool
  rangeX1 : BitVec 12
  rangeX2 : BitVec 12
  rangeY1 : BitVec 10
  rangeY2 : BitVec 10
  start : Start
  size : Size
  startN : NormPair
  sizeN : NormPair
  deriving DecidableEq, Repr

/-- The configuration store as the engine's interface shows it (R23, R24, R25). -/
structure ConfigStore where
  smooth : Bool
  autoStd : Bool
  videoStd : VideoStd
  deriving DecidableEq, Repr

structure State where
  ds : DisplayState
  /-- the power-on valid mark of `drawMode` (70_reset_and_hazards.md R89) -/
  drawModeValid : Bool
  /-- the power-on valid mark of `start` (R89) -/
  startValid : Bool
  cfg : ConfigStore
  /-- the `cfg.videoStd` writes the engine has made, oldest first (R100) -/
  stdWrites : List VideoStd
  /-- what the host has read, oldest first; the model's own field (log entry 14) -/
  reads : List (Port × BitVec 32)
  /-- the host's actions not yet performed, next first; the model's own field (log entry 4) -/
  script : List HostAction
  deriving DecidableEq, Repr

/-- The engine itself raises no fault (60_exceptions.md R78). -/
inductive Fault where
  /-- Raised by a host read of a read port before the first `Reset`: "a model must treat such a read as a
  fault of the host's program, not as zero" (10_state.md R27). Safe: the model stops where the spec gives
  no value. -/
  | readBeforeFirstReset
  deriving DecidableEq, Repr

/-- Why a transaction has no meaning. -/
inductive Refusal where
  /-- Raised by a refused arm of `exec` only: an instruction without its meaning yet. Safe. -/
  | notModelled (mnemonic : String)
  /-- Raised by `execReserved7`: select 7, "A model must refuse a transaction with `op = 7`"
  (30_encoding.md R46). Safe. -/
  | reservedSelect
  /-- Raised by every operation but `Reset` while a field of `DS` holds no value
  (70_reset_and_hazards.md R92). Safe. -/
  | operationBeforeFirstReset
  deriving DecidableEq, Repr

/-- The contents behind the clear valid marks at power-on, 0 as R89 says of the other reading of
`COLD_GATES_FIRE`. No operation and no read shows them while the gates fire (log entry 5). -/
def DisplayState.powerUp : DisplayState where
  drawMode := 0
  isPal := false
  is24Bit := false
  isInterlaced := false
  enabled := false
  rangeX1 := 0
  rangeX2 := 0
  rangeY1 := 0
  rangeY2 := 0
  start := ⟨0, 0⟩
  size := ⟨0, 0⟩
  startN := ⟨0, 0⟩
  sizeN := ⟨0, 0⟩

/-- `DS` after `Reset` with `cfg.smooth = 0` (the table of 70_reset_and_hazards.md R88; the binary32
words of 95_test_vectors.md section 2.5). -/
def DisplayState.afterReset : DisplayState where
  drawMode := 0x00
  isPal := false
  is24Bit := false
  isInterlaced := false
  enabled := false
  rangeX1 := 0x200
  rangeX2 := 0xC00
  rangeY1 := 0x010
  rangeY2 := 0x250
  start := ⟨0, 0⟩
  size := ⟨256, 247⟩
  startN := ⟨0x00000000, 0x00000000⟩
  sizeN := ⟨0x3E800000, 0x3EF70000⟩

/-- The configuration store the model starts with. DESIGN CHOICE, unsafe (log entries 1 and 2): the
three items "have no reset value in the engine; they are the host's" (R27). -/
def ConfigStore.initial : ConfigStore where
  smooth := false
  autoStd := false
  videoStd := .ntsc

/-- Before the first `Reset`: no field of `DS` holds a value (R89, R92). -/
def State.powerOn : State where
  ds := DisplayState.powerUp
  drawModeValid := false
  startValid := false
  cfg := ConfigStore.initial
  stdWrites := []
  reads := []
  script := []

/-- Right after the first `Reset` (R88, R89), the host idle. -/
def State.reset : State where
  ds := DisplayState.afterReset
  drawModeValid := true
  startValid := true
  cfg := ConfigStore.initial
  stdWrites := []
  reads := []
  script := []

end Sys2Proof.Machine
end

