-- ==== Sys2Proof/Machine/Flags.lean ====
section
/-!
DEFINITION. The mode register's bits (10_state.md R11) and the three flags cached from it (R12). The engine has no
other flag computation.
-/

namespace Sys2Proof.Machine

/-- `hres1`, bits 1:0. -/
def modeHres1 (m : BitVec 8) : BitVec 2 := m.extractLsb' 0 2

/-- `hres2`, bit 6. -/
def modeHres2 (m : BitVec 8) : Bool := m[6]

/-- `std`, bit 3: 1 = PAL. -/
def modeStd (m : BitVec 8) : Bool := m[3]

/-- `c24`, bit 4. -/
def modeC24 (m : BitVec 8) : Bool := m[4]

/-- `il`, bit 5. -/
def modeIl (m : BitVec 8) : Bool := m[5]

/-- The mode register and its three flags, "recomputed together, never independently" (R12). -/
def DisplayState.writeMode (m : BitVec 8) (d : DisplayState) : DisplayState :=
  { d with drawMode := m, isPal := modeStd m, is24Bit := modeC24 m, isInterlaced := modeIl m }

/-- The enum value a standard flag stands for (R54; D14). -/
def standardOf (isPal : Bool) : VideoStd := if isPal then .pal else .ntsc

/-- The write port's one-bit encoding of a standard: "`NTSC = 0`, `PAL = 1`" (10_state.md R25; D14). -/
def videoStdCode : VideoStd → BitVec 1
  | .ntsc => 0
  | .pal => 1

end Sys2Proof.Machine
end

