-- ==== Sys2Proof/Machine/Float32.lean ====
section
/-!
DEFINITION. Binary32 words of the exact quotients the normalizers form (00_scope.md R8: `f32`;
41_geometry_deriver.md R70).
-/

namespace Sys2Proof.Machine

/-- The biased exponent field of a nonzero `n / d`, `d` a power of two: the exponent of the leading bit of
`n`, less that of `d`, plus the bias 127. -/
def f32Exponent (n : Int) (d : Nat) : Nat := 127 + n.natAbs.log2 - d.log2

/-- The fraction field: the bits of `n` below its leading bit, moved up to bit 22. -/
def f32Fraction (n : Int) : Nat := n.natAbs * 2 ^ (23 - n.natAbs.log2) - 2 ^ 23

/-- `f32(real(n) / d)` for `d` a power of two and `|n| < 2^24`, where the quotient is exact and no rounding
mode is involved (R70). Zero is `+0`. Every caller has `|n| <= 1024` (log entry 9). -/
def f32 (n : Int) (d : Nat) : F32 :=
  if n = 0 then 0
  else BitVec.ofNat 32 ((if n < 0 then 2 ^ 31 else 0) + f32Exponent n d * 2 ^ 23 + f32Fraction n)

/-- The rational a finite binary32 word stands for: sign bit 31, exponent bits 30:23, fraction bits 22:0;
exponent 0 is zero or subnormal. (Exponent 255 is no number; the word is then given no meaning here.) -/
def f32Value (v : F32) : ℚ :=
  let magnitude : Nat :=
    if (v.extractLsb' 23 8).toNat = 0 then 2 * (v.extractLsb' 0 23).toNat
    else (2 ^ 23 + (v.extractLsb' 0 23).toNat) * 2 ^ (v.extractLsb' 23 8).toNat
  (if v[31] then -1 else 1) * (magnitude : ℚ) / 2 ^ 150

/-- A word is `+0` or a normal number: no NaN, infinity, subnormal or `-0` (R70). -/
def f32NormalOrZero (v : F32) : Bool :=
  v = 0 || (0 < (v.extractLsb' 23 8).toNat && (v.extractLsb' 23 8).toNat < 255)

end Sys2Proof.Machine
end

