-- ==== Sys2Proof/Config.lean ====
section
/-!
DEFINITION. The shape of the one configuration record (00_scope.md section 4; 93_implementation_defined.md U1, U5, U12).
Its value is `Sys2Proof.Machine.config` in Machine/Literals.lean.
-/

namespace Sys2Proof

/-- The parameter `NEG_HEIGHT` (D10, U1): which height an inverted clamped vertical range has. -/
inductive NegHeight where
  /-- height 0, the reading of R63 -/
  | zero
  /-- `totalScanlines`: an unsigned subtraction, then the outer `min` -/
  | full
  /-- the signed difference -/
  | negative
  deriving DecidableEq, Repr

/-- The constants of one video-timing standard (R60). -/
structure Standard where
  cyclesPerScanline : Nat
  totalScanlines : Nat
  deriving DecidableEq, Repr

/-- What is fixed for the machine: the document's literals (00_scope.md section 4) and the two open
parameters of 92_eei_decisions.md. No rule computes with a literal that is not here, but for the masks
of the command words, which are the encoding (Decode.lean). -/
structure Config where
  /-- `CANVAS_W` (R67) -/
  canvasW : Nat
  /-- `CANVAS_H` (R67) -/
  canvasH : Nat
  /-- `DIVIDER[0..7]` (R59) -/
  dividers : Vector Nat 8
  /-- the 60 Hz constants (R60) -/
  ntsc : Standard
  /-- the 50 Hz constants (R60) -/
  pal : Standard
  /-- what is added to the span in pixels before the alignment (R65) -/
  widthBias : Nat
  /-- the alignment of the width, a number of pixels (R65: `& ~3`) -/
  widthAlign : Nat
  /-- what smoothing adds to both start components (R68) -/
  smoothStart : Nat
  /-- what smoothing takes from both size components (R69) -/
  smoothSize : Nat
  resetX1 : BitVec 12
  resetX2 : BitVec 12
  resetY1 : BitVec 10
  resetY2 : BitVec 10
  negHeight : NegHeight
  coldGatesFire : Bool
  deriving DecidableEq, Repr

end Sys2Proof
end

