-- ==== Sys2Proof/Machine/Literals.lean ====
section
/-!
DEFINITION. The one configuration record: the document's literals copied verbatim and the two parameters
at their defaults (00_scope.md section 4; 93_implementation_defined.md U12).
-/

namespace Sys2Proof.Machine

/-- UNVERIFIED (log entry 18): the literals are unaudited in the spec's source. DESIGN CHOICE (log
entries 7 and 8): the parameters stand at the defaults the spec gives, D10 and D16. -/
def config : Config where
  canvasW := 1024
  canvasH := 512
  dividers := #v[10, 7, 8, 7, 5, 7, 4, 7]
  ntsc := ⟨3413, 263⟩
  pal := ⟨3406, 314⟩
  widthBias := 2
  widthAlign := 4
  smoothStart := 1
  smoothSize := 2
  resetX1 := 0x200
  resetX2 := 0x200 + 2560
  resetY1 := 0x10
  resetY2 := 0x10 + 0x240
  negHeight := .zero
  coldGatesFire := true

end Sys2Proof.Machine
end

