-- ==== Sys2Proof/Machine/Geometry.lean ====
section
/-!
DEFINITION. The video-timing selector, the Geometry Deriver, the two normalizers and the smoothing transformer, as
functions of `DS` and the sampled `cfg.smooth` (41_geometry_deriver.md).
-/

namespace Sys2Proof.Machine

/-- The horizontal resolution selector, `drawMode[6] | (drawMode[1:0] << 1)` (R59). -/
def selector (m : BitVec 8) : BitVec 3 := modeHres1 m ++ BitVec.ofBool (modeHres2 m)

/-- Step 1, the dot-clock divider (R59). -/
def divider (m : BitVec 8) : Nat := config.dividers[(selector m).toNat]'(selector m).isLt

/-- Step 2, the constants of the standard the cached flag names (R60). -/
def standard (isPal : Bool) : Standard := if isPal then config.pal else config.ntsc

/-- Step 3, one horizontal end: the upper clamp first, then down to a multiple of the divider (R61). -/
def roundedX (x cycles divider : Nat) : Nat := min x cycles / divider * divider

/-- Step 4, first half: one vertical end, upper clamp only (R62). -/
def clampedY (y lines : Nat) : Nat := min y lines

/-- Step 4, second half, before the doubling: `min(totalScanlines, max(0, cy2 - cy1))` (R63), and the
two readings `NEG_HEIGHT` keeps of an inverted range (D10, U1). -/
def frameHeight (reading : NegHeight) (lines cy1 cy2 : Nat) : Int :=
  match reading with
  | .zero => min (lines : Int) (max 0 ((cy2 : Int) - cy1))
  | .full => if cy2 < cy1 then lines else min (lines : Int) ((cy2 : Int) - cy1)
  | .negative => min (lines : Int) ((cy2 : Int) - cy1)

/-- The interlace doubling, after the `min` (R63). -/
def interlaced (il : Bool) (height : Int) : Int := if il then height * 2 else height

/-- Step 5, first half: `max(0, rx2 - rx1)` (R64). -/
def spanOf (rx1 rx2 : Nat) : Nat := rx2 - rx1

/-- Step 5, second half: `(floor_div(span, divider) + 2) & ~3` (R65), `& ~3` read as
`v - (v mod 4)` (00_scope.md R7). -/
def pixelWidth (span divider : Nat) : Nat :=
  let v := span / divider + config.widthBias
  v - v % config.widthAlign

/-- The width the raw registers give (R59, R60, R61, R64, R65). -/
def derivedWidth (d : DisplayState) : Nat :=
  let cycles := (standard d.isPal).cyclesPerScanline
  let div := divider d.drawMode
  pixelWidth (spanOf (roundedX d.rangeX1.toNat cycles div) (roundedX d.rangeX2.toNat cycles div)) div

/-- The height the raw registers give (R60, R62, R63). -/
def derivedHeight (d : DisplayState) : Int :=
  let lines := (standard d.isPal).totalScanlines
  interlaced d.isInterlaced
    (frameHeight config.negHeight lines (clampedY d.rangeY1.toNat lines) (clampedY d.rangeY2.toNat lines))

/-- Steps 1 to 6: the unedited size as `DS.size` stores it (R66; R19: the 10 bits lose nothing). -/
def derivedSize (d : DisplayState) : Size :=
  ⟨BitVec.ofNat 10 (derivedWidth d), BitVec.ofInt 10 (derivedHeight d)⟩

/-- `NormStart` (R68): both components plus 1 under smoothing, over the canvas (R67). -/
def normStart (p : Start) (smooth : Bool) : NormPair :=
  let a : Int := if smooth then config.smoothStart else 0
  ⟨f32 (p.x.toNat + a) config.canvasW, f32 (p.y.toNat + a) config.canvasH⟩

/-- `NormSize` (R69): both components less 2 under smoothing, signed and not clamped (D13), over the
canvas (R67). -/
def normSize (p : Size) (smooth : Bool) : NormPair :=
  let b : Int := if smooth then config.smoothSize else 0
  ⟨f32 (p.w.toNat - b) config.canvasW, f32 (p.h.toNat - b) config.canvasH⟩

/-- `NormalizeStart()` (R68): writes `DS.startN`, nothing else. -/
def DisplayState.normalizeStart (smooth : Bool) (d : DisplayState) : DisplayState :=
  { d with startN := normStart d.start smooth }

/-- `NormalizeSize()` (R69): writes `DS.sizeN`, nothing else. -/
def DisplayState.normalizeSize (smooth : Bool) (d : DisplayState) : DisplayState :=
  { d with sizeN := normSize d.size smooth }

/-- `UpdateDisplayArea()` (R58): steps 1 to 6, then the size normalizer. -/
def DisplayState.updateDisplayArea (smooth : Bool) (d : DisplayState) : DisplayState :=
  DisplayState.normalizeSize smooth { d with size := derivedSize d }

end Sys2Proof.Machine
end

