-- ==== Sys2Proof/Machine/Operands.lean ====
section
/-!
DEFINITION. What an operation reads before it acts: whether `DS` holds values, the change gates
(40_register_decoder.md R49), and the read ports (10_state.md R26).
-/

namespace Sys2Proof.Machine

/-- Every field of `DS` holds a value: the first `Reset` has completed (70_reset_and_hazards.md R89, R92). -/
def State.live (s : State) : Bool := s.drawModeValid && s.startValid

/-- The value `startX` can have in the register: bit 0 forced to 0 (10_state.md R17). -/
def maskStartX (x : BitVec 10) : BitVec 10 := x &&& 0x3FE#10

/-- A gate over a register that may hold no value: "such a comparison finds a difference, so both gates
open" (R89) while `fires`; with `COLD_GATES_FIRE` false the power-up contents are compared. -/
def coldGate (fires valid differs : Bool) : Bool := (fires && !valid) || differs

/-- The gate of `SetDisplayStart`: either component differs (R50). -/
def startGate (fires : Bool) (x : BitVec 10) (y : BitVec 9) (s : State) : Bool :=
  coldGate fires s.startValid (x != s.ds.start.x || y != s.ds.start.y)

/-- The gate of `SetHorizontalRange`: either end differs (R51). -/
def horizontalGate (x1 x2 : BitVec 12) (s : State) : Bool :=
  x1 != s.ds.rangeX1 || x2 != s.ds.rangeX2

/-- The gate of `SetVerticalRange`: either end differs (R52). -/
def verticalGate (y1 y2 : BitVec 10) (s : State) : Bool :=
  y1 != s.ds.rangeY1 || y2 != s.ds.rangeY2

/-- The gate of `SetMode`: all 8 bits are compared (R53). -/
def modeGate (fires : Bool) (m : BitVec 8) (s : State) : Bool :=
  coldGate fires s.drawModeValid (m != s.ds.drawMode)

/-- The number of wires of a read port, "as the fields" (20_memory.md section 1). -/
def portWidth : Port → Nat
  | .startX => 10
  | .startY => 9
  | .sizeW => 10
  | .sizeH => 10
  | .startNX => 32
  | .startNY => 32
  | .sizeNX => 32
  | .sizeNY => 32
  | .isPal => 1
  | .is24Bit => 1
  | .isInterlaced => 1
  | .enabled => 1

/-- A read port's value, the upper wires of a narrower port read as 0 (R26; log entry 14). -/
def portValue (d : DisplayState) : Port → BitVec 32
  | .startX => d.start.x.setWidth 32
  | .startY => d.start.y.setWidth 32
  | .sizeW => d.size.w.setWidth 32
  | .sizeH => d.size.h.setWidth 32
  | .startNX => d.startN.x
  | .startNY => d.startN.y
  | .sizeNX => d.sizeN.x
  | .sizeNY => d.sizeN.y
  | .isPal => (BitVec.ofBool d.isPal).setWidth 32
  | .is24Bit => (BitVec.ofBool d.is24Bit).setWidth 32
  | .isInterlaced => (BitVec.ofBool d.isInterlaced).setWidth 32
  | .enabled => (BitVec.ofBool d.enabled).setWidth 32

end Sys2Proof.Machine
end

