-- ==== Sys2Proof/Machine/Ops.lean ====
section
/-!
DEFINITION. The named operations over the whole state that several meanings share, and the host's own actions. The
engine has no memory (20_memory.md R28) and takes no exception (60_exceptions.md R78, R81), so there is no memory
operation, no exception entry and no return here.
-/

namespace Sys2Proof.Machine

/-- `NormalizeStart()` with `cfg.smooth` sampled now (10_state.md R23). -/
def State.normalizeStart (s : State) : State := { s with ds := s.ds.normalizeStart s.cfg.smooth }

/-- `NormalizeSize()` with `cfg.smooth` sampled now (R23). -/
def State.normalizeSize (s : State) : State := { s with ds := s.ds.normalizeSize s.cfg.smooth }

/-- `UpdateDisplayArea()` with `cfg.smooth` sampled now (R23, R58). -/
def State.updateDisplayArea (s : State) : State := { s with ds := s.ds.updateDisplayArea s.cfg.smooth }

/-- The engine's one write to the configuration store (10_state.md R25), seen from outside as one more
write of the sequence (70_reset_and_hazards.md R100). -/
def State.writeVideoStd (v : VideoStd) (s : State) : State :=
  { s with cfg := { s.cfg with videoStd := v }, stdWrites := s.stdWrites ++ [v] }

/-- `PropagateStandard()` (40_register_decoder.md R54). -/
def State.propagateStandard (s : State) : State :=
  if s.cfg.autoStd then s.writeVideoStd (standardOf s.ds.isPal) else s

/-- `SetDisplayStart` as a procedure, gate included (R50); the store sets the valid mark (R89). -/
def State.setDisplayStart (fires : Bool) (x : BitVec 10) (y : BitVec 9) (s : State) : State :=
  if startGate fires (maskStartX x) y s then
    State.normalizeStart { s with ds := { s.ds with start := ⟨maskStartX x, y⟩ }, startValid := true }
  else s

/-- `SetHorizontalRange` as a procedure (R51). -/
def State.setHorizontalRange (x1 x2 : BitVec 12) (s : State) : State :=
  if horizontalGate x1 x2 s then
    State.updateDisplayArea { s with ds := { s.ds with rangeX1 := x1, rangeX2 := x2 } }
  else s

/-- `SetVerticalRange` as a procedure (R52). -/
def State.setVerticalRange (y1 y2 : BitVec 10) (s : State) : State :=
  if verticalGate y1 y2 s then
    State.updateDisplayArea { s with ds := { s.ds with rangeY1 := y1, rangeY2 := y2 } }
  else s

/-- `SetMode` as a procedure, gate included (R53); the store sets the valid mark (R89). -/
def State.setMode (fires : Bool) (m : BitVec 8) (s : State) : State :=
  if modeGate fires m s then
    State.updateDisplayArea
      (State.propagateStandard { s with ds := s.ds.writeMode m, drawModeValid := true })
  else s

/-- The five direct writes of `Reset` (70_reset_and_hazards.md R87). -/
def DisplayState.writeResetRanges (d : DisplayState) : DisplayState :=
  { d with
    rangeX1 := config.resetX1, rangeX2 := config.resetX2
    rangeY1 := config.resetY1, rangeY2 := config.resetY2
    enabled := false }

/-- `Reset` as a procedure (R87). After it "every field of `DS` has a defined value" (10_state.md R27),
so both valid marks are set, also where `fires` is false and the gates stayed closed (R89). -/
def State.resetEngine (fires : Bool) (s : State) : State :=
  let s1 : State := { s with ds := s.ds.writeResetRanges }
  let s2 := State.setMode fires 0#8 s1
  let s3 := State.setDisplayStart fires 0#10 0#9 s2
  { State.updateDisplayArea s3 with drawModeValid := true, startValid := true }

/-- An operation other than `Reset` runs only once `DS` holds values: "a model must refuse" it before the
first `Reset` (R92). -/
def whenLive (op : State → State) (s : State) : Host.Outcome State Fault Refusal :=
  if s.live then .next (op s) else .refused .operationBeforeFirstReset

/-- A host read of a port (10_state.md R26): no side effect on the engine; before the first `Reset` "a
fault of the host's program" (R27). -/
def readPort (p : Port) (s : State) : Host.Outcome State Fault Refusal :=
  if s.live then .next { s with reads := s.reads ++ [(p, portValue s.ds p)] }
  else .fault .readBeforeFirstReset

/-- Host actions that are no operation "change an input and run no rule" (30_encoding.md R48). -/
def State.driveSmooth (b : Bool) (s : State) : State := { s with cfg := { s.cfg with smooth := b } }

/-- `cfg.autoStd := b` (R48). -/
def State.driveAutoStd (b : Bool) (s : State) : State := { s with cfg := { s.cfg with autoStd := b } }

/-- Another party writes the store: "Other parties may write it at any time" (10_state.md R25); no write
of the engine's. -/
def State.otherWritesVideoStd (v : VideoStd) (s : State) : State :=
  { s with cfg := { s.cfg with videoStd := v } }

end Sys2Proof.Machine
end

