-- ==== Sys2Proof/Machine/RegisterDecoder.lean ====
section
/-!
DEFINITION. The meanings of the register decoder's operations (40_register_decoder.md).
-/

namespace Sys2Proof.Machine

/-- `SetDisplayStart` (R50). -/
def execSetDisplayStart (x : BitVec 10) (y : BitVec 9) (s : State) : Host.Outcome State Fault Refusal :=
  whenLive (State.setDisplayStart config.coldGatesFire x y) s

/-- `SetHorizontalRange` (R51). -/
def execSetHorizontalRange (x1 x2 : BitVec 12) (s : State) : Host.Outcome State Fault Refusal :=
  whenLive (State.setHorizontalRange x1 x2) s

/-- `SetVerticalRange` (R52). -/
def execSetVerticalRange (y1 y2 : BitVec 10) (s : State) : Host.Outcome State Fault Refusal :=
  whenLive (State.setVerticalRange y1 y2) s

/-- `SetMode` (R53). -/
def execSetMode (m : BitVec 8) (s : State) : Host.Outcome State Fault Refusal :=
  whenLive (State.setMode config.coldGatesFire m) s

/-- `WriteEnabled` (R55): no gate, nothing else touched. -/
def execWriteEnabled (e : Bool) (s : State) : Host.Outcome State Fault Refusal :=
  whenLive (fun s => { s with ds := { s.ds with enabled := e } }) s

end Sys2Proof.Machine
end

