-- ==== Sys2Proof/Machine/System.lean ====
section
/-!
DEFINITION. The meanings of `Reset` (70_reset_and_hazards.md R87), `RefreshSmoothingAdjustment`
(41_geometry_deriver.md R71) and the reserved select (30_encoding.md R46).
-/

namespace Sys2Proof.Machine

/-- `Reset` (R87 to R91): the one operation that runs also before the first `Reset`. -/
def execReset (s : State) : Host.Outcome State Fault Refusal :=
  .next (State.resetEngine config.coldGatesFire s)

/-- `RefreshSmoothingAdjustment` (R71): both normalizers, no gate. -/
def execRefreshSmoothingAdjustment (s : State) : Host.Outcome State Fault Refusal :=
  whenLive (fun s => State.normalizeSize (State.normalizeStart s)) s

/-- Select 7: "it has no meaning, it is not a no-op" (R46). -/
def execReserved7 (_ : State) : Host.Outcome State Fault Refusal := .refused .reservedSelect

end Sys2Proof.Machine
end

