-- ==== Sys2Proof/Machine/Dispatch.lean ====
section
/-!
DEFINITION. One arm per row of the opcode table.
-/

namespace Sys2Proof.Machine

def exec (i : Instr) (s : State) : Host.Outcome State Fault Refusal :=
  match i with
  | .reset => Sys2Proof.Machine.execReset s
  | .setDisplayStart startX startY => Sys2Proof.Machine.execSetDisplayStart startX startY s
  | .setHorizontalRange newX1 newX2 => Sys2Proof.Machine.execSetHorizontalRange newX1 newX2 s
  | .setVerticalRange newY1 newY2 => Sys2Proof.Machine.execSetVerticalRange newY1 newY2 s
  | .setMode newMode => Sys2Proof.Machine.execSetMode newMode s
  | .refreshSmoothingAdjustment => Sys2Proof.Machine.execRefreshSmoothingAdjustment s
  | .writeEnabled enabled => Sys2Proof.Machine.execWriteEnabled enabled s
  | .reserved7 => Sys2Proof.Machine.execReserved7 s

end Sys2Proof.Machine
end

