-- ==== Sys2Proof/Machine/Step.lean ====
section
/-!
DEFINITION. One step of the machine: the host's next action. The engine fetches nothing (10_state.md R22); the
transaction on its ports is the head of the host's script (log entries 3 and 4).
-/

namespace Sys2Proof.Machine

/-- The host performs its next action; with none left the engine is idle and `DS` stands
(60_exceptions.md R86, 70_reset_and_hazards.md R100). -/
def step (s : State) : Host.Outcome State Fault Refusal :=
  match s.script with
  | [] => .next s
  | .transact t :: rest => exec (decode t) { s with script := rest }
  | .setSmooth b :: rest => .next (State.driveSmooth b { s with script := rest })
  | .setAutoStd b :: rest => .next (State.driveAutoStd b { s with script := rest })
  | .setVideoStd v :: rest => .next (State.otherWritesVideoStd v { s with script := rest })
  | .read p :: rest => readPort p { s with script := rest }

/-- The transaction stands next on the ports: the host issues it before the rest of its script. -/
def State.withFetchWord (s : State) (nbits w : Nat) : State :=
  { s with script := .transact (BitVec.ofNat 35 (w % 2 ^ nbits)) :: s.script }

end Sys2Proof.Machine
end

