-- ==== Sys2Proof/Safety.lean ====
section
/-!
DEFINITION. What holds of the state between operations: the invariants of 10_state.md that the claims use.
-/

namespace Sys2Proof.Machine

/-- The cached flags are "always consistent with `drawMode`'s bits" (R12). -/
abbrev FlagsAgree (d : DisplayState) : Prop :=
  d.isPal = d.drawMode[3] ∧ d.is24Bit = d.drawMode[4] ∧ d.isInterlaced = d.drawMode[5]

/-- `DS.start.x` is "always even" (R17). -/
abbrev StartEven (d : DisplayState) : Prop := d.start.x[0] = false

/-- `DS.size` is what steps 1 to 6 give for the raw registers as they stand (R18, R94). -/
abbrev SizeDerived (d : DisplayState) : Prop := d.size = derivedSize d

/-- Each normalized pair was computed from the stored start or size, under one of the two values of
`cfg.smooth` (R20, R21). -/
abbrev NormalizedFromStored (d : DisplayState) : Prop :=
  (d.startN = normStart d.start false ∨ d.startN = normStart d.start true) ∧
    (d.sizeN = normSize d.size false ∨ d.sizeN = normSize d.size true)

/-- The two power-on valid marks are set together, by the first `Reset` (70_reset_and_hazards.md R89). -/
abbrev MarksTogether (s : State) : Prop := s.drawModeValid = s.startValid

/-- The invariant of every state between operations. Before the first `Reset` the fields hold no value, so
nothing is said of them (R27). -/
abbrev Inv (s : State) : Prop :=
  MarksTogether s ∧
    (s.live = true → FlagsAgree s.ds ∧ StartEven s.ds ∧ SizeDerived s.ds ∧ NormalizedFromStored s.ds)

/-- Both normalized pairs agree with the stored start and size under the present `cfg.smooth`: the host has
kept its duty (R21; 70_reset_and_hazards.md R93). -/
abbrev Consistent (s : State) : Prop :=
  s.live = true →
    s.ds.startN = normStart s.ds.start s.cfg.smooth ∧ s.ds.sizeN = normSize s.ds.size s.cfg.smooth

/-- The host's next action does not change `cfg.smooth`. -/
abbrev KeepsSmooth (s : State) : Prop :=
  ∀ b rest, s.script = .setSmooth b :: rest → b = s.cfg.smooth

/-- The state in which the host's next action is to issue one transaction. -/
def State.issue (op : Select) (command : Command) (s : State) : State :=
  { s with script := .transact (transaction op command) :: s.script }

end Sys2Proof.Machine
end

