-- ==== Sys2Proof/Certificates/Slice0/Obligations.lean ====
section
/-!
DEFINITION. The statements for the provers. Literals stand in them as the spec prints them, so that a wrong entry of
`config` makes a statement false.
-/

open Sys2Proof Sys2Proof.Machine

/-! ### Encoding -/

/-- 30_encoding.md section 6: no field bit of an operation is dropped between the encoder and the decoder. -/
def Obligations.EncodeThenDecodeGivesTheOperation : Prop :=
  ∀ i : Instr, i.wellFormed = true → decode (encode i) = i

/-- 30_encoding.md section 6, the patterns: decoding keeps exactly the field bits (and the select), and what it
gives is well-formed. -/
def Obligations.DecodeKeepsExactlyTheFieldBits : Prop :=
  ∀ t : Transaction,
    (decode t).wellFormed = true ∧
    (selectOf t = 0 → encode (decode t) = t &&& 0x700000000#35) ∧
    (selectOf t = 1 → encode (decode t) = t &&& 0x70007FFFE#35) ∧
    (selectOf t = 2 → encode (decode t) = t &&& 0x700FFFFFF#35) ∧
    (selectOf t = 3 → encode (decode t) = t &&& 0x7000FFFFF#35) ∧
    (selectOf t = 4 → encode (decode t) = t &&& 0x7000000FF#35) ∧
    (selectOf t = 5 → encode (decode t) = t &&& 0x700000000#35) ∧
    (selectOf t = 6 → encode (decode t) = t &&& 0x700000001#35) ∧
    (selectOf t = 7 → encode (decode t) = t &&& 0x700000000#35)

/-- R45 (an inference of the spec): words that differ only in ignored bits have the same effect in every
respect. The masks are the field bits of each pattern. -/
def Obligations.IgnoredBitsHaveNoEffect : Prop :=
  ∀ (s : State) (rest : List HostAction) (t u : Transaction),
    selectOf t = selectOf u →
    (commandOf t &&& (match (selectOf t).toNat with
        | 1 => 0x0007FFFE#32 | 2 => 0x00FFFFFF#32 | 3 => 0x000FFFFF#32 | 4 => 0x000000FF#32
        | 6 => 0x00000001#32 | _ => 0#32)) =
      (commandOf u &&& (match (selectOf t).toNat with
        | 1 => 0x0007FFFE#32 | 2 => 0x00FFFFFF#32 | 3 => 0x000FFFFF#32 | 4 => 0x000000FF#32
        | 6 => 0x00000001#32 | _ => 0#32)) →
    step { s with script := .transact t :: rest } = step { s with script := .transact u :: rest }

/-- R39, R40, R41: the operand fields are the shifts and masks of the document, on every command word. -/
def Obligations.OperandFieldsAreTheShiftsAndMasks : Prop :=
  ∀ w : Command,
    decode (transaction 1 w) =
      .setDisplayStart (BitVec.ofNat 10 (w.toNat &&& 0x3FE)) (BitVec.ofNat 9 ((w.toNat >>> 10) &&& 0x1FF)) ∧
    decode (transaction 2 w) =
      .setHorizontalRange (BitVec.ofNat 12 (w.toNat &&& 0xFFF))
        (BitVec.ofNat 12 ((w.toNat >>> 12) &&& 0xFFF)) ∧
    decode (transaction 3 w) =
      .setVerticalRange (BitVec.ofNat 10 (w.toNat &&& 0x3FF))
        (BitVec.ofNat 10 ((w.toNat >>> 10) &&& 0x3FF))

/-- R37, R43, R44 (the spec's decisions D1, D12): the operand-free selects, `WriteEnabled`'s bit 0, and the
reserved select, on every command word. -/
def Obligations.OtherSelectsDecode : Prop :=
  ∀ w : Command,
    decode (transaction 0 w) = .reset ∧
    decode (transaction 5 w) = .refreshSmoothingAdjustment ∧
    decode (transaction 6 w) = .writeEnabled (decide (w.toNat % 2 = 1)) ∧
    decode (transaction 7 w) = .reserved7

/-- 95_test_vectors.md section 3, program P1: the words of the steps are the operations. -/
def Obligations.ProgramWordsDecode : Prop :=
  decodeTableWord 40 0x000000000 = some .reset ∧
  decodeTableWord 40 0x100040141 = some (.setDisplayStart 320 256) ∧
  decodeTableWord 40 0x200C60260 = some (.setHorizontalRange 0x260 0xC60) ∧
  decodeTableWord 40 0x300048C23 = some (.setVerticalRange 35 291) ∧
  decodeTableWord 40 0x400000029 = some (.setMode 0x29) ∧
  decodeTableWord 40 0x500000000 = some .refreshSmoothingAdjustment ∧
  decodeTableWord 40 0x600000001 = some (.writeEnabled true) ∧
  decodeTableWord 40 0x700000000 = some .reserved7

/-- R48 (the spec's decision D7): the pseudo-forms expand to the words of the table, all ignored bits 0. -/
def Obligations.PseudoFormsExpand : Prop :=
  (∀ (x : BitVec 10) (y : BitVec 9), x[0] = false →
    encode (expand (.displayStart x y)) = transaction 1 (BitVec.ofNat 32 ((y.toNat <<< 10) ||| x.toNat))) ∧
  (∀ a b : BitVec 12,
    encode (expand (.horizontalRange a b)) = transaction 2 (BitVec.ofNat 32 ((b.toNat <<< 12) ||| a.toNat))) ∧
  (∀ a b : BitVec 10,
    encode (expand (.verticalRange a b)) = transaction 3 (BitVec.ofNat 32 ((b.toNat <<< 10) ||| a.toNat))) ∧
  (∀ (h : BitVec 2) (g p k i : Bool),
    encode (expand (.mode h g p k i)) =
      transaction 4 (BitVec.ofNat 32 ((g.toNat <<< 6) ||| (i.toNat <<< 5) ||| (k.toNat <<< 4) |||
        (p.toNat <<< 3) ||| h.toNat)))

/-! ### The step -/

/-- A step runs the decoded transaction (R31, R37), and `withFetchWord` makes it the next one. The script is
the model's (log entries 3 and 4). -/
def Obligations.StepRunsTheDecodedTransaction : Prop :=
  (∀ (s : State) (t : Transaction) (rest : List HostAction), s.script = .transact t :: rest →
    step s = exec (decode t) { s with script := rest }) ∧
  (∀ (s : State) (w : Nat) (i : Instr), decodeTableWord 40 w = some i → w < 2 ^ 40 →
    step (s.withFetchWord 40 w) = exec i s)

/-- R48, R86, R100, R25: a host action that is no operation changes its one input and runs no rule; with no action
left the engine is idle. -/
def Obligations.HostActionsChangeOnlyTheirInput : Prop :=
  ∀ (s : State) (rest : List HostAction),
    (∀ b, s.script = .setSmooth b :: rest →
      step s = .next { s with script := rest, cfg := { s.cfg with smooth := b } }) ∧
    (∀ b, s.script = .setAutoStd b :: rest →
      step s = .next { s with script := rest, cfg := { s.cfg with autoStd := b } }) ∧
    (∀ v, s.script = .setVideoStd v :: rest →
      step s = .next { s with script := rest, cfg := { s.cfg with videoStd := v } }) ∧
    (s.script = [] → step s = .next s)

/-- R26, R27: a read port shows its field as of the last completed operation, a read changes nothing of the
engine, and a read before the first `Reset` stops. The 32-bit carrier of the value is the model's (log entry 14). -/
def Obligations.ReadPortsShowTheFields : Prop :=
  ∀ (s : State) (p : Port) (rest : List HostAction), s.script = .read p :: rest →
    (s.live = false → step s = .fault .readBeforeFirstReset) ∧
    (s.live = true → ∃ v : BitVec 32,
      step s = .next { s with script := rest, reads := s.reads ++ [(p, v)] } ∧
      v.toNat = (match p with
        | .startX => s.ds.start.x.toNat | .startY => s.ds.start.y.toNat
        | .sizeW => s.ds.size.w.toNat | .sizeH => s.ds.size.h.toNat
        | .startNX => s.ds.startN.x.toNat | .startNY => s.ds.startN.y.toNat
        | .sizeNX => s.ds.sizeN.x.toNat | .sizeNY => s.ds.sizeN.y.toNat
        | .isPal => s.ds.isPal.toNat | .is24Bit => s.ds.is24Bit.toNat
        | .isInterlaced => s.ds.isInterlaced.toNat | .enabled => s.ds.enabled.toNat))

/-- R38, R56: on every command word every operation with select 0 to 6 decodes, its bits outside the fields masked
away, and completes once `DS` holds values. -/
def Obligations.EveryCommandWordIsLegal : Prop :=
  ∀ (s : State) (op : Select) (w : Command), s.live = true → op ≠ 7 →
    decode (transaction op w) ≠ .reserved7 ∧
    decode (transaction op w) =
      decode (transaction op (w &&& (match op.toNat with
        | 1 => 0x0007FFFE#32 | 2 => 0x00FFFFFF#32 | 3 => 0x000FFFFF#32 | 4 => 0x000000FF#32
        | 6 => 0x00000001#32 | _ => 0#32))) ∧
    ∃ t, step (s.issue op w) = .next t

/-- R46 (the spec's decision D2): select 7 is refused, whatever the command word and the state. -/
def Obligations.ReservedSelectIsRefused : Prop :=
  ∀ (s : State) (w : Command),
    exec .reserved7 s = .refused .reservedSelect ∧ step (s.issue 7 w) = .refused .reservedSelect

/-- R92 (the spec's decision D16): before the first `Reset` every other operation is refused, and `Reset` runs and
leaves a state in which every operation runs. -/
def Obligations.OnlyResetRunsBeforeTheFirstReset : Prop :=
  ∀ s : State, s.live = false →
    (∀ x y, exec (.setDisplayStart x y) s = .refused .operationBeforeFirstReset) ∧
    (∀ a b, exec (.setHorizontalRange a b) s = .refused .operationBeforeFirstReset) ∧
    (∀ a b, exec (.setVerticalRange a b) s = .refused .operationBeforeFirstReset) ∧
    (∀ m, exec (.setMode m) s = .refused .operationBeforeFirstReset) ∧
    exec .refreshSmoothingAdjustment s = .refused .operationBeforeFirstReset ∧
    (∀ e, exec (.writeEnabled e) s = .refused .operationBeforeFirstReset) ∧
    ∃ t, exec .reset s = .next t ∧ t.live = true

/-! ### The register decoder -/

/-- R50, whole: the fields of the command word; with the gate closed nothing at all; with it open both components
stored and `startN` computed under the sampled `cfg.smooth`, everything else as before; the document's property of a
following read; and the gate open whatever the operand while `start` holds no value. The last clause rests on
`COLD_GATES_FIRE` = true, the open parameter of R89 and decision D16 at its default (log entry 8). -/
def Obligations.SetDisplayStartStoresAndNormalizes : Prop :=
  (∀ w : Command, decode (transaction 1 w) =
    .setDisplayStart (BitVec.ofNat 10 (w.toNat &&& 0x3FE)) (BitVec.ofNat 9 ((w.toNat >>> 10) &&& 0x1FF))) ∧
  (∀ (s : State) (x : BitVec 10) (y : BitVec 9), s.live = true →
    ((x &&& 0x3FE#10) = s.ds.start.x ∧ y = s.ds.start.y → exec (.setDisplayStart x y) s = .next s) ∧
    (¬((x &&& 0x3FE#10) = s.ds.start.x ∧ y = s.ds.start.y) →
      exec (.setDisplayStart x y) s =
        .next { s with ds := { s.ds with
          start := ⟨x &&& 0x3FE#10, y⟩
          startN := ⟨f32 ((x &&& 0x3FE#10).toNat + (if s.cfg.smooth then 1 else 0)) 1024,
            f32 (y.toNat + (if s.cfg.smooth then 1 else 0)) 512⟩ } })) ∧
  (∀ (s : State) (w : Command), s.live = true →
    ∃ t, step (s.issue 1 w) = .next t ∧ t.ds.start.x.toNat = w.toNat &&& 0x3FE ∧
      t.ds.start.y.toNat = (w.toNat >>> 10) &&& 0x1FF) ∧
  (∀ (s : State) (x : BitVec 10) (y : BitVec 9), s.startValid = false →
    (s.setDisplayStart config.coldGatesFire x y).ds.start = ⟨x &&& 0x3FE#10, y⟩ ∧
    (s.setDisplayStart config.coldGatesFire x y).ds.startN = normStart ⟨x &&& 0x3FE#10, y⟩ s.cfg.smooth)

/-- R51, whole: the fields; the closed gate; the open gate stores both ends unclamped and runs the Deriver;
everything else as before. -/
def Obligations.SetHorizontalRangeStoresAndDerives : Prop :=
  (∀ w : Command, decode (transaction 2 w) =
    .setHorizontalRange (BitVec.ofNat 12 (w.toNat &&& 0xFFF)) (BitVec.ofNat 12 ((w.toNat >>> 12) &&& 0xFFF))) ∧
  (∀ (s : State) (x1 x2 : BitVec 12), s.live = true →
    (x1 = s.ds.rangeX1 ∧ x2 = s.ds.rangeX2 → exec (.setHorizontalRange x1 x2) s = .next s) ∧
    (¬(x1 = s.ds.rangeX1 ∧ x2 = s.ds.rangeX2) →
      exec (.setHorizontalRange x1 x2) s =
        .next { s with ds :=
          let d := { s.ds with rangeX1 := x1, rangeX2 := x2 }
          { d with size := derivedSize d, sizeN := normSize (derivedSize d) s.cfg.smooth } }))

/-- R52, whole: the fields; the closed gate; the open gate stores both ends unclamped and runs the Deriver;
everything else as before. -/
def Obligations.SetVerticalRangeStoresAndDerives : Prop :=
  (∀ w : Command, decode (transaction 3 w) =
    .setVerticalRange (BitVec.ofNat 10 (w.toNat &&& 0x3FF)) (BitVec.ofNat 10 ((w.toNat >>> 10) &&& 0x3FF))) ∧
  (∀ (s : State) (y1 y2 : BitVec 10), s.live = true →
    (y1 = s.ds.rangeY1 ∧ y2 = s.ds.rangeY2 → exec (.setVerticalRange y1 y2) s = .next s) ∧
    (¬(y1 = s.ds.rangeY1 ∧ y2 = s.ds.rangeY2) →
      exec (.setVerticalRange y1 y2) s =
        .next { s with ds :=
          let d := { s.ds with rangeY1 := y1, rangeY2 := y2 }
          { d with size := derivedSize d, sizeN := normSize (derivedSize d) s.cfg.smooth } }))

/-- R42, R53, R54: the mode byte; with the gate closed nothing at all; with it open the byte and the three flags are
stored, the standard is written to the store exactly when `cfg.autoStd` holds, and the Deriver runs either way;
everything else as before. The selector clause is R42's and R59's. The last clause, the gate open whatever the byte
while `drawMode` holds no value, rests on `COLD_GATES_FIRE` = true, the open parameter of R89 and decision D16 at its
default (log entry 8). -/
def Obligations.SetModeStoresPropagatesAndDerives : Prop :=
  (∀ w : Command, decode (transaction 4 w) = .setMode (BitVec.ofNat 8 (w.toNat &&& 0xFF))) ∧
  (∀ m : BitVec 8, (selector m).toNat = ((m.toNat >>> 6) &&& 1) ||| ((m.toNat &&& 3) <<< 1)) ∧
  (∀ (s : State) (m : BitVec 8), s.live = true →
    (m = s.ds.drawMode → exec (.setMode m) s = .next s) ∧
    (m ≠ s.ds.drawMode →
      exec (.setMode m) s =
        .next { s with
          ds :=
            let d := { s.ds with drawMode := m, isPal := m[3], is24Bit := m[4], isInterlaced := m[5] }
            { d with size := derivedSize d, sizeN := normSize (derivedSize d) s.cfg.smooth }
          cfg := if s.cfg.autoStd then { s.cfg with videoStd := if m[3] then .pal else .ntsc } else s.cfg
          stdWrites :=
            if s.cfg.autoStd then s.stdWrites ++ [if m[3] then .pal else .ntsc] else s.stdWrites })) ∧
  (∀ (s : State) (m : BitVec 8), s.drawModeValid = false →
    (s.setMode config.coldGatesFire m).ds.drawMode = m ∧ (s.setMode config.coldGatesFire m).ds.isPal = m[3] ∧
    (s.setMode config.coldGatesFire m).ds.is24Bit = m[4] ∧ (s.setMode config.coldGatesFire m).ds.isInterlaced = m[5])

/-- R55 (the spec's decision D12): `enabled` takes bit 0 and nothing else changes. -/
def Obligations.WriteEnabledWritesOnlyEnabled : Prop :=
  ∀ (s : State) (e : Bool), s.live = true →
    exec (.writeEnabled e) s = .next { s with ds := { s.ds with enabled := e } }

/-- R57, whole: repeating a setter changes nothing, also when the inputs changed in between; repeating any operation
with unchanged inputs changes nothing. -/
def Obligations.OperationsAreIdempotent : Prop :=
  ∀ (i : Instr) (s t : State), exec i s = .next t →
    exec i t = .next t ∧
    ((∃ x y, i = .setDisplayStart x y) ∨ (∃ a b, i = .setHorizontalRange a b) ∨
        (∃ a b, i = .setVerticalRange a b) ∨ (∃ m, i = .setMode m) →
      ∀ smooth autoStd : Bool,
        exec i { t with cfg := { t.cfg with smooth := smooth, autoStd := autoStd } } =
          .next { t with cfg := { t.cfg with smooth := smooth, autoStd := autoStd } })

/-! ### The Geometry Deriver -/

/-- R59: the selector and the table, "reproduced verbatim". -/
def Obligations.DividerTableIsTheSpecs : Prop :=
  config.dividers.toList = [10, 7, 8, 7, 5, 7, 4, 7] ∧
  ∀ m : BitVec 8,
    (selector m).toNat = ((m.toNat >>> 6) &&& 1) ||| ((m.toNat &&& 3) <<< 1) ∧
    divider m =
      if m[6] then 7
      else match m.toNat % 4 with
        | 0 => 10
        | 1 => 8
        | 2 => 5
        | _ => 4

/-- R60: the constants of the two standards, chosen by the cached flag, which is mode bit 3, never by the store. -/
def Obligations.StandardSelectsTheConstants : Prop :=
  (standard false).cyclesPerScanline = 3413 ∧ (standard false).totalScanlines = 263 ∧
  (standard true).cyclesPerScanline = 3406 ∧ (standard true).totalScanlines = 314 ∧
  (∀ s : State, Inv s → s.live = true →
    standard s.ds.isPal = if s.ds.drawMode[3] then ⟨3406, 314⟩ else ⟨3413, 263⟩) ∧
  (∀ (s : State) (v : VideoStd), (s.otherWritesVideoStd v).updateDisplayArea.ds = s.updateDisplayArea.ds)

/-- R61, whole: each end is clamped from above, then taken down to a multiple of the divider; the span moves by at
most `divider - 1` either way; the stored registers stay. -/
def Obligations.HorizontalEndsClampThenRound : Prop :=
  (∀ x cycles div : Nat, 0 < div →
    div ∣ roundedX x cycles div ∧ roundedX x cycles div ≤ min x cycles ∧
      min x cycles < roundedX x cycles div + div) ∧
  (∀ x1 x2 cycles div : Nat, 0 < div → x1 ≤ cycles → x2 ≤ cycles →
    ((roundedX x2 cycles div : Int) - roundedX x1 cycles div) - ((x2 : Int) - x1) ≤ div - 1 ∧
    ((x2 : Int) - x1) - ((roundedX x2 cycles div : Int) - roundedX x1 cycles div) ≤ div - 1) ∧
  roundedX 4095 3413 10 = 3410 ∧
  (∀ (b : Bool) (d : DisplayState), (d.updateDisplayArea b).rangeX1 = d.rangeX1 ∧
    (d.updateDisplayArea b).rangeX2 = d.rangeX2)

/-- R64, R65: the span floors at 0 and is a multiple of the divider; the width is `((span / divider) + 2) & ~3`, the
multiple of 4 nearest to the quotient with ties going up. -/
def Obligations.WidthIsTheAlignedSpan : Prop :=
  ∀ d : DisplayState,
    let cycles : Nat := if d.isPal then 3406 else 3413
    let rx1 := roundedX d.rangeX1.toNat cycles (divider d.drawMode)
    let rx2 := roundedX d.rangeX2.toNat cycles (divider d.drawMode)
    let span := spanOf rx1 rx2
    let q := span / divider d.drawMode
    (span : Int) = max 0 ((rx2 : Int) - rx1) ∧
    divider d.drawMode ∣ span ∧
    derivedWidth d = (q + 2) - (q + 2) % 4 ∧
    4 ∣ derivedWidth d ∧ derivedWidth d ≤ q + 2 ∧ q ≤ derivedWidth d + 1

/-- R62, R63 with the spec's decision D10 (log entry 7): the clamped difference, 0 for an inverted range, doubled
after the `min` when interlaced. -/
def Obligations.HeightIsTheClampedDifference : Prop :=
  ∀ d : DisplayState,
    let lines : Nat := if d.isPal then 314 else 263
    let cy1 := min d.rangeY1.toNat lines
    let cy2 := min d.rangeY2.toNat lines
    (cy2 < cy1 → derivedHeight d = 0) ∧
    (cy1 ≤ cy2 → derivedHeight d = (if d.isInterlaced then 2 else 1) * ((cy2 : Int) - cy1))

/-- 92_eei_decisions.md D10, 93_implementation_defined.md U1: the three readings of `NEG_HEIGHT` agree but on an
inverted range, and there give 0, all lines, and the signed difference. -/
def Obligations.NegHeightReadingsDifferOnlyWhenInverted : Prop :=
  ∀ lines y1 y2 : Nat,
    let cy1 := clampedY y1 lines
    let cy2 := clampedY y2 lines
    (cy1 ≤ cy2 → ∀ r, frameHeight r lines cy1 cy2 = (cy2 : Int) - cy1) ∧
    (cy2 < cy1 →
      frameHeight .zero lines cy1 cy2 = 0 ∧ frameHeight .full lines cy1 cy2 = lines ∧
      frameHeight .negative lines cy1 cy2 = (cy2 : Int) - cy1)

/-- R66 (and R58, R77: nothing else is written): `UpdateDisplayArea` stores the unedited width and height, no bit
lost, and `sizeN` computed from a copy. -/
def Obligations.UpdateDisplayAreaStoresTheUneditedSize : Prop :=
  ∀ (b : Bool) (d : DisplayState),
    (d.updateDisplayArea b).size.w.toNat = derivedWidth d ∧
    ((d.updateDisplayArea b).size.h.toNat : Int) = derivedHeight d ∧
    d.updateDisplayArea b = { d with size := derivedSize d, sizeN := normSize (derivedSize d) b } ∧
    (d.normalizeSize b).size = d.size

/-- R73, R74, R19 (inferences of the spec): the greatest width per divider and standard and the greatest height, each
reached; and the stored size within 852 by 628. -/
def Obligations.SizeBoundsAreReached : Prop :=
  (∀ d : DisplayState,
    let cycles : Nat := if d.isPal then 3406 else 3413
    let widest : Nat :=
      match divider d.drawMode with
        | 10 => 340
        | 8 => if d.isPal then 424 else 428
        | 7 => 488
        | 5 => if d.isPal then 680 else 684
        | _ => 852
    derivedWidth d ≤ widest ∧ (d.rangeX1 = 0#12 → cycles ≤ d.rangeX2.toNat → derivedWidth d = widest)) ∧
  (∀ d : DisplayState,
    let lines : Nat := if d.isPal then 314 else 263
    let tallest : Int := if d.isInterlaced then 2 * lines else lines
    0 ≤ derivedHeight d ∧ derivedHeight d ≤ tallest ∧ (d.isInterlaced = true → 2 ∣ derivedHeight d) ∧
      (d.rangeY1 = 0#10 → lines ≤ d.rangeY2.toNat → derivedHeight d = tallest)) ∧
  (∀ s : State, Inv s → s.live = true →
    4 ∣ s.ds.size.w.toNat ∧ s.ds.size.w.toNat ≤ 852 ∧ s.ds.size.h.toNat ≤ 628)

/-! ### The normalizers -/

/-- R70 (an inference of the spec): every quotient the normalizers form is exact in binary32, a normal number or
`+0`, and the word carries the numerator. -/
def Obligations.NormalizedValuesAreExact : Prop :=
  ∀ (n : Int) (d : Nat), -1023 ≤ n → n ≤ 1023 → d = 512 ∨ d = 1024 →
    f32Value (f32 n d) = (n : ℚ) / (d : ℚ) ∧ f32NormalOrZero (f32 n d) = true ∧
    (∀ k : Int, -1023 ≤ k → k ≤ 1023 → f32 k d = f32 n d → k = n)

/-- R67, R68: the value of `startN` over the 1024 by 512 canvas, with 1 added under smoothing; nothing else written;
`startN.y` reaches exactly 1.0. -/
def Obligations.NormalizeStartDividesByTheCanvas : Prop :=
  ∀ (b : Bool) (d : DisplayState),
    f32Value (d.normalizeStart b).startN.x = ((d.start.x.toNat : ℚ) + (if b then 1 else 0)) / 1024 ∧
    f32Value (d.normalizeStart b).startN.y = ((d.start.y.toNat : ℚ) + (if b then 1 else 0)) / 512 ∧
    d.normalizeStart b = { d with startN := (d.normalizeStart b).startN } ∧
    (StartEven d → b = true → (d.start.x.toNat + 1) % 2 = 1 ∧ d.start.x.toNat + 1 ≤ 1023) ∧
    (d.start.y = 511#9 → b = true → f32Value (d.normalizeStart b).startN.y = 1)

/-- R69 with the spec's decision D13 (log entry 11): the value of `sizeN`, 2 taken away under smoothing, signed and not
clamped; nothing else written. -/
def Obligations.NormalizeSizeSubtractsWithoutAFloor : Prop :=
  ∀ (b : Bool) (d : DisplayState),
    f32Value (d.normalizeSize b).sizeN.x = ((d.size.w.toNat : ℚ) - (if b then 2 else 0)) / 1024 ∧
    f32Value (d.normalizeSize b).sizeN.y = ((d.size.h.toNat : ℚ) - (if b then 2 else 0)) / 512 ∧
    d.normalizeSize b = { d with sizeN := (d.normalizeSize b).sizeN }

/-- R75 (an inference of the spec), C3: the ranges of the four normalized values between operations. They are not
[0,1]. -/
def Obligations.NormalizedRangesHold : Prop :=
  ∀ s : State, Inv s → s.live = true →
    0 ≤ f32Value s.ds.startN.x ∧ f32Value s.ds.startN.x ≤ 1023 / 1024 ∧
    0 ≤ f32Value s.ds.startN.y ∧ f32Value s.ds.startN.y ≤ 1 ∧
    -2 / 1024 ≤ f32Value s.ds.sizeN.x ∧ f32Value s.ds.sizeN.x ≤ 852 / 1024 ∧
    -2 / 512 ≤ f32Value s.ds.sizeN.y ∧ f32Value s.ds.sizeN.y ≤ 628 / 512

/-- R71, whole: both pairs recomputed from the stored start and size under the sampled `cfg.smooth`, nothing else
changed; refused before the first `Reset`. -/
def Obligations.RefreshRecomputesBothPairs : Prop :=
  (∀ s : State, s.live = true →
    exec .refreshSmoothingAdjustment s =
      .next { s with ds := { s.ds with
        startN := normStart s.ds.start s.cfg.smooth
        sizeN := normSize s.ds.size s.cfg.smooth } }) ∧
  (∀ s : State, s.live = false →
    exec .refreshSmoothingAdjustment s = .refused .operationBeforeFirstReset)

/-- R72: after a toggle the refresh gives the `size` and `sizeN` a full recomputation gives under the new flag, and the
full recomputation leaves `startN` alone. -/
def Obligations.RefreshEqualsFullRecomputation : Prop :=
  ∀ (s : State) (b : Bool), s.live = true → SizeDerived s.ds →
    ∃ t, exec .refreshSmoothingAdjustment (s.driveSmooth b) = .next t ∧
      t.ds.sizeN = (s.ds.updateDisplayArea b).sizeN ∧ t.ds.size = (s.ds.updateDisplayArea b).size ∧
      (s.ds.updateDisplayArea b).startN = s.ds.startN

/-- R76, whole: interlace doubling, width alignment, clamping of a far `rangeX2`, and the smoothing adjustment undone
by toggling there and back. -/
def Obligations.DocumentLawsHold : Prop :=
  (∀ (b : Bool) (d : DisplayState),
    (DisplayState.updateDisplayArea b { d with isInterlaced := true }).size.h.toNat =
      2 * (DisplayState.updateDisplayArea b { d with isInterlaced := false }).size.h.toNat) ∧
  (∀ (b : Bool) (d : DisplayState), 4 ∣ (d.updateDisplayArea b).size.w.toNat) ∧
  (∀ (b : Bool) (d : DisplayState), (standard d.isPal).cyclesPerScanline ≤ d.rangeX2.toNat →
    (d.updateDisplayArea b).size.w =
      (DisplayState.updateDisplayArea b
        { d with rangeX2 := BitVec.ofNat 12 (standard d.isPal).cyclesPerScanline }).size.w) ∧
  (∀ s : State, s.live = true → Consistent s →
    ∃ t, exec .refreshSmoothingAdjustment (s.driveSmooth (!s.cfg.smooth)) = .next t ∧
      exec .refreshSmoothingAdjustment (t.driveSmooth s.cfg.smooth) = .next s)

/-! ### Reset -/

/-- R87: a `Reset` on a state that holds values, gates live: the direct writes, `SetMode(0)`, `SetDisplayStart(0)`,
then the unconditional `UpdateDisplayArea`. -/
def Obligations.ResetRunsItsSteps : Prop :=
  ∀ s : State, s.live = true →
    ∃ t, exec .reset s = .next t ∧
      t.ds.rangeX1.toNat = 0x200 ∧ t.ds.rangeX2.toNat = 0x200 + 2560 ∧
      t.ds.rangeY1.toNat = 0x10 ∧ t.ds.rangeY2.toNat = 0x10 + 0x240 ∧ t.ds.enabled = false ∧
      t.ds.drawMode = 0#8 ∧ t.ds.start = ⟨0#10, 0#9⟩ ∧
      (s.ds.drawMode ≠ 0#8 → t.ds.isPal = false ∧ t.ds.is24Bit = false ∧ t.ds.isInterlaced = false) ∧
      (s.ds.drawMode = 0#8 →
        t.ds.isPal = s.ds.isPal ∧ t.ds.is24Bit = s.ds.is24Bit ∧ t.ds.isInterlaced = s.ds.isInterlaced) ∧
      (s.ds.start ≠ ⟨0#10, 0#9⟩ → t.ds.startN = normStart ⟨0#10, 0#9⟩ s.cfg.smooth) ∧
      (s.ds.start = ⟨0#10, 0#9⟩ → t.ds.startN = s.ds.startN) ∧
      t.ds.size = derivedSize t.ds ∧ t.ds.sizeN = normSize t.ds.size s.cfg.smooth ∧
      (s.ds.drawMode ≠ 0#8 ∧ s.cfg.autoStd = true →
        t.cfg = { s.cfg with videoStd := .ntsc } ∧ t.stdWrites = s.stdWrites ++ [.ntsc]) ∧
      (¬(s.ds.drawMode ≠ 0#8 ∧ s.cfg.autoStd = true) → t.cfg = s.cfg ∧ t.stdWrites = s.stdWrites) ∧
      t.live = true ∧ t.reads = s.reads ∧ t.script = s.script

/-- R88, R89, R91 (an inference and the decision D16 of the spec; log entry 8): the first `Reset` gives the table, its
binary32 words those of 95_test_vectors.md section 2.5, and depends on nothing before it but the inputs. -/
def Obligations.FirstResetGivesTheTable : Prop :=
  ∀ s : State, s.drawModeValid = false → s.startValid = false →
    exec .reset s = .next
      { ds :=
          { drawMode := 0x00#8, isPal := false, is24Bit := false, isInterlaced := false, enabled := false
            rangeX1 := 0x200#12, rangeX2 := 0xC00#12, rangeY1 := 0x010#10, rangeY2 := 0x250#10
            start := ⟨0#10, 0#9⟩, size := ⟨256#10, 247#10⟩
            startN := if s.cfg.smooth then ⟨0x3A800000#32, 0x3B000000#32⟩ else ⟨0x00000000#32, 0x00000000#32⟩
            sizeN := if s.cfg.smooth then ⟨0x3E7E0000#32, 0x3EF50000#32⟩ else ⟨0x3E800000#32, 0x3EF70000#32⟩ }
        drawModeValid := true, startValid := true
        cfg := if s.cfg.autoStd then { s.cfg with videoStd := .ntsc } else s.cfg
        stdWrites := if s.cfg.autoStd then s.stdWrites ++ [.ntsc] else s.stdWrites
        reads := s.reads, script := s.script }

/-- R90, R91 (inferences of the spec): a later `Reset` gives the table too, but for `startN`, which stands when the
start already was `(0, 0)`, and for the store's write, which is made only when the mode was not 0. -/
def Obligations.LaterResetGivesTheTable : Prop :=
  ∀ s : State, s.live = true → FlagsAgree s.ds →
    exec .reset s = .next
      { s with
        ds :=
          { drawMode := 0x00#8, isPal := false, is24Bit := false, isInterlaced := false, enabled := false
            rangeX1 := 0x200#12, rangeX2 := 0xC00#12, rangeY1 := 0x010#10, rangeY2 := 0x250#10
            start := ⟨0#10, 0#9⟩, size := ⟨256#10, 247#10⟩
            startN :=
              if s.ds.start = ⟨0#10, 0#9⟩ then s.ds.startN
              else if s.cfg.smooth then ⟨0x3A800000#32, 0x3B000000#32⟩ else ⟨0x00000000#32, 0x00000000#32⟩
            sizeN := if s.cfg.smooth then ⟨0x3E7E0000#32, 0x3EF50000#32⟩ else ⟨0x3E800000#32, 0x3EF70000#32⟩ }
        cfg := if s.cfg.autoStd && s.ds.drawMode != 0#8 then { s.cfg with videoStd := .ntsc } else s.cfg
        stdWrites := if s.cfg.autoStd && s.ds.drawMode != 0#8 then s.stdWrites ++ [.ntsc] else s.stdWrites }

/-- R88, and the model's choice of the inputs at reset (log entries 1 and 2): the first `Reset` after power-on gives
`State.reset`. -/
def Obligations.ResetFromPowerOnIsTheResetState : Prop :=
  exec .reset State.powerOn = .next State.reset

/-- R89, the other setting of `COLD_GATES_FIRE` (decision D16, U5): from zero power-up contents the first `Reset` then
differs in two ways only, no write of the store and `startN` left at its power-up value. -/
def Obligations.ColdGatesClosedDifferInTwoWays : Prop :=
  ∀ s : State, s.ds = DisplayState.powerUp → s.drawModeValid = false → s.startValid = false →
    s.resetEngine false =
      { s.resetEngine true with
        ds := { (s.resetEngine true).ds with startN := s.ds.startN }
        cfg := s.cfg
        stdWrites := s.stdWrites }

/-! ### The whole machine -/

/-- R10, R12, R14 to R18, R20 (R14's `WriteEnabled` is the decision D12): each field changes only under the operations
the spec names as its writers; no operation touches the inputs, the host's script or its reads. -/
def Obligations.FieldsHaveOnlyTheirWriters : Prop :=
  ∀ (i : Instr) (s t : State), exec i s = .next t →
    ((∃ m, i = .setMode m) ∨ i = .reset ∨
      (t.ds.drawMode = s.ds.drawMode ∧ t.ds.isPal = s.ds.isPal ∧ t.ds.is24Bit = s.ds.is24Bit ∧
        t.ds.isInterlaced = s.ds.isInterlaced)) ∧
    ((∃ e, i = .writeEnabled e) ∨ i = .reset ∨ t.ds.enabled = s.ds.enabled) ∧
    ((∃ a b, i = .setHorizontalRange a b) ∨ i = .reset ∨
      (t.ds.rangeX1 = s.ds.rangeX1 ∧ t.ds.rangeX2 = s.ds.rangeX2)) ∧
    ((∃ a b, i = .setVerticalRange a b) ∨ i = .reset ∨
      (t.ds.rangeY1 = s.ds.rangeY1 ∧ t.ds.rangeY2 = s.ds.rangeY2)) ∧
    ((∃ x y, i = .setDisplayStart x y) ∨ i = .reset ∨ t.ds.start = s.ds.start) ∧
    ((∃ a b, i = .setHorizontalRange a b) ∨ (∃ a b, i = .setVerticalRange a b) ∨ (∃ m, i = .setMode m) ∨
      i = .reset ∨ t.ds.size = s.ds.size) ∧
    ((∃ x y, i = .setDisplayStart x y) ∨ i = .refreshSmoothingAdjustment ∨ i = .reset ∨
      t.ds.startN = s.ds.startN) ∧
    ((∃ a b, i = .setHorizontalRange a b) ∨ (∃ a b, i = .setVerticalRange a b) ∨ (∃ m, i = .setMode m) ∨
      i = .refreshSmoothingAdjustment ∨ i = .reset ∨ t.ds.sizeN = s.ds.sizeN) ∧
    t.cfg.smooth = s.cfg.smooth ∧ t.cfg.autoStd = s.cfg.autoStd ∧ t.reads = s.reads ∧
    t.script = s.script ∧ t.live = true

/-- R25, R54, R91, R96: the store is written at most once by an operation, only under `cfg.autoStd`, only by a `SetMode`
that changes the mode or a `Reset` whose `SetMode(0)` does, and a `Reset` never writes `PAL`. -/
def Obligations.StoreWritesNeedAModeChange : Prop :=
  ∀ (i : Instr) (s t : State), exec i s = .next t →
    (t.cfg = s.cfg ∧ t.stdWrites = s.stdWrites) ∨
    (s.cfg.autoStd = true ∧
      ∃ v, t.cfg = { s.cfg with videoStd := v } ∧ t.stdWrites = s.stdWrites ++ [v] ∧
        ((∃ m, i = .setMode m ∧ m ≠ s.ds.drawMode ∧ v = if m[3] then .pal else .ntsc) ∨
          (i = .reset ∧ v = .ntsc ∧ (s.drawModeValid = false ∨ s.ds.drawMode ≠ 0#8))))

/-- R13: `is24Bit` and mode bits 2 and 7 are stored and cannot change the rectangle. -/
def Obligations.InertBitsCannotChangeTheRectangle : Prop :=
  (∀ d e : DisplayState, (e.drawMode &&& 0x43#8) = (d.drawMode &&& 0x43#8) → e.isPal = d.isPal →
    e.isInterlaced = d.isInterlaced → e.rangeX1 = d.rangeX1 → e.rangeX2 = d.rangeX2 →
    e.rangeY1 = d.rangeY1 → e.rangeY2 = d.rangeY2 → derivedSize e = derivedSize d) ∧
  (∀ (i : Instr) (s t : State) (b : Bool), exec i s = .next t →
    ∃ u, exec i { s with ds := { s.ds with is24Bit := b } } = .next u ∧
      u.ds.start = t.ds.start ∧ u.ds.size = t.ds.size ∧ u.ds.startN = t.ds.startN ∧
      u.ds.sizeN = t.ds.sizeN) ∧
  (∀ (s : State) (m : BitVec 8), s.live = true → FlagsAgree s.ds → SizeDerived s.ds →
    ∃ t, exec (.setMode m) s = .next t ∧ t.ds.drawMode = m ∧ t.ds.is24Bit = m[4] ∧
      ((m &&& 0x6B#8) = (s.ds.drawMode &&& 0x6B#8) → t.ds.size = s.ds.size ∧ t.ds.start = s.ds.start))

/-- R97 (an inference of the spec), R24, R25: neither `cfg.videoStd` nor `cfg.autoStd` can reach `DS`, and
`cfg.videoStd` cannot reach the writes the engine makes. -/
def Obligations.GeometryIgnoresTheStoresStandard : Prop :=
  ∀ (i : Instr) (s t : State) (v : VideoStd) (a : Bool), exec i s = .next t →
    ∃ u, exec i { s with cfg := { s.cfg with videoStd := v, autoStd := a } } = .next u ∧ u.ds = t.ds ∧
      (a = s.cfg.autoStd → u.stdWrites = t.stdWrites)

/-- R17, R18, R23, R77 (an inference of the spec): `cfg.smooth` reaches the two normalized pairs and nothing else. -/
def Obligations.SmoothingReachesOnlyTheNormalizedPairs : Prop :=
  ∀ (i : Instr) (s t : State) (b : Bool), exec i s = .next t →
    ∃ u, exec i (s.driveSmooth b) = .next u ∧
      { u.ds with startN := t.ds.startN, sizeN := t.ds.sizeN } = t.ds ∧
      u.stdWrites = t.stdWrites ∧ u.cfg.videoStd = t.cfg.videoStd

/-- R93, whole: a toggle alone changes nothing of `DS`; which operation refreshes which pair under the new flag; one
refresh repairs both; and without it the two pairs can come to disagree about the flag. The last is shown by a run of
two steps from `State.reset`, which rests on `cfg.smooth` being false there, the model's choice (log entry 1). -/
def Obligations.ToggleLeavesPairsStaleUntilRefreshed : Prop :=
  (∃ t : State,
    Host.Core.run core 2 { State.reset with script :=
      [.setSmooth true, .transact (transaction 2 0x00C01200#32)] } = .next t ∧
    t.ds.startN = normStart t.ds.start false ∧ t.ds.startN ≠ normStart t.ds.start true ∧
    t.ds.sizeN = normSize t.ds.size true ∧ t.ds.sizeN ≠ normSize t.ds.size false) ∧
  (∀ s : State, s.live = true →
    (∀ b rest, s.script = .setSmooth b :: rest → ∃ t, step s = .next t ∧ t.ds = s.ds ∧ t.cfg.smooth = b) ∧
    (∀ x y, ¬((x &&& 0x3FE#10) = s.ds.start.x ∧ y = s.ds.start.y) →
      ∃ t, exec (.setDisplayStart x y) s = .next t ∧ t.ds.startN = normStart t.ds.start s.cfg.smooth ∧
        t.ds.sizeN = s.ds.sizeN) ∧
    (∀ a b, ¬(a = s.ds.rangeX1 ∧ b = s.ds.rangeX2) →
      ∃ t, exec (.setHorizontalRange a b) s = .next t ∧ t.ds.sizeN = normSize t.ds.size s.cfg.smooth ∧
        t.ds.startN = s.ds.startN) ∧
    (∀ a b, ¬(a = s.ds.rangeY1 ∧ b = s.ds.rangeY2) →
      ∃ t, exec (.setVerticalRange a b) s = .next t ∧ t.ds.sizeN = normSize t.ds.size s.cfg.smooth ∧
        t.ds.startN = s.ds.startN) ∧
    (∀ m, m ≠ s.ds.drawMode →
      ∃ t, exec (.setMode m) s = .next t ∧ t.ds.sizeN = normSize t.ds.size s.cfg.smooth ∧
        t.ds.startN = s.ds.startN) ∧
    (∃ t, exec .reset s = .next t ∧ t.ds.sizeN = normSize t.ds.size s.cfg.smooth ∧
      (s.ds.start ≠ ⟨0#10, 0#9⟩ → t.ds.startN = normStart t.ds.start s.cfg.smooth) ∧
      (s.ds.start = ⟨0#10, 0#9⟩ → t.ds.startN = s.ds.startN)) ∧
    (∃ t, exec .refreshSmoothingAdjustment s = .next t ∧
      t.ds.startN = normStart t.ds.start t.cfg.smooth ∧ t.ds.sizeN = normSize t.ds.size t.cfg.smooth ∧
      t.ds.start = s.ds.start ∧ t.ds.size = s.ds.size))

/-- R80 (an inference of the spec): a mode write and a smoothing toggle may come in either order, provided the refresh
follows the toggle. -/
def Obligations.ModeWriteAndToggleCommute : Prop :=
  ∀ (s : State) (w : Command) (b : Bool), s.live = true →
    ∃ t : State,
      Host.Core.run core 3 { s with script :=
        [.setSmooth b, .transact (transaction 5 0), .transact (transaction 4 w)] } = .next t ∧
      Host.Core.run core 3 { s with script :=
        [.setSmooth b, .transact (transaction 4 w), .transact (transaction 5 0)] } = .next t ∧
      Host.Core.run core 3 { s with script :=
        [.transact (transaction 4 w), .setSmooth b, .transact (transaction 5 0)] } = .next t

/-- The invariant (R12, R17, R18, R20, R89) holds at reset and at power-on, and the host's duty is kept at reset. -/
def Obligations.ResetStateMeetsTheInvariant : Prop :=
  Inv State.reset ∧ Consistent State.reset ∧ Inv State.powerOn

/-- R12, R17, R18, R20 and the marks of R89: every step keeps the invariant, from any state that meets it. -/
def Obligations.EveryStepKeepsTheInvariant : Prop :=
  ∀ s t : State, Inv s → step s = .next t → Inv t

/-- R21 (an inference of the spec): while the host changes `cfg.smooth` nowhere, every step keeps both normalized pairs
equal to the normalizers' values; the first `Reset` establishes it. -/
def Obligations.EveryStepKeepsThePairsConsistent : Prop :=
  ∀ s t : State, Inv s → Consistent s → KeepsSmooth s → step s = .next t → Consistent t
end

