-- ==== Sys2Proof/Laws/Decode.lean ====
section
/-!
SUPPORT. The two halves of a transaction word, and the decoder select by select.
-/

namespace Sys2Proof

/-- Bit `k` of a word: of the command below bit 32, of the select from there. -/
theorem getLsbD_transaction (op : Select) (c : Command) (k : Nat) :
    (transaction op c).getLsbD k = if k < 32 then c.getLsbD k else op.getLsbD (k - 32) :=
  BitVec.getLsbD_append

@[simp] theorem selectOf_transaction (op : Select) (c : Command) : selectOf (transaction op c) = op := by
  apply BitVec.eq_of_getLsbD_eq
  intro k hk
  simp [selectOf, getLsbD_transaction, hk]

@[simp] theorem commandOf_transaction (op : Select) (c : Command) : commandOf (transaction op c) = c := by
  apply BitVec.eq_of_getLsbD_eq
  intro k hk
  simp [commandOf, getLsbD_transaction, hk]

/-- A word is its select and its command. -/
theorem transaction_eta (t : Transaction) : transaction (selectOf t) (commandOf t) = t := by
  apply BitVec.eq_of_getLsbD_eq
  intro k hk
  rw [getLsbD_transaction]
  by_cases h : k < 32
  · simp [commandOf, h]
  · have h3 : k - 32 < 3 := by omega
    have h4 : 32 + (k - 32) = k := by omega
    simp [selectOf, h, h3, h4]

theorem decode_select0 (c : Command) : decode (transaction 0 c) = .reset := by
  simp [decode]

theorem decode_select1 (c : Command) :
    decode (transaction 1 c) = .setDisplayStart (startXField c) (startYField c) := by
  simp [decode]

theorem decode_select2 (c : Command) :
    decode (transaction 2 c) = .setHorizontalRange (newX1Field c) (newX2Field c) := by
  simp [decode]

theorem decode_select3 (c : Command) :
    decode (transaction 3 c) = .setVerticalRange (newY1Field c) (newY2Field c) := by
  simp [decode]

theorem decode_select4 (c : Command) : decode (transaction 4 c) = .setMode (newModeField c) := by
  simp [decode]

theorem decode_select5 (c : Command) : decode (transaction 5 c) = .refreshSmoothingAdjustment := by
  simp [decode]

theorem decode_select6 (c : Command) : decode (transaction 6 c) = .writeEnabled (enabledField c) := by
  simp [decode]

theorem decode_select7 (c : Command) : decode (transaction 7 c) = .reserved7 := by
  simp [decode]

end Sys2Proof
end

