-- ==== Sys2Proof/Laws/State.lean ====
section
/-!
SUPPORT. One lemma per field per update of `DS` and of the state, each true by rfl.
-/

namespace Sys2Proof.Machine

/-! ### `DisplayState.writeMode` -/

@[simp] theorem DisplayState.writeMode_drawMode (m : BitVec 8) (d : DisplayState) : (d.writeMode m).drawMode = m := rfl
@[simp] theorem DisplayState.writeMode_isPal (m : BitVec 8) (d : DisplayState) : (d.writeMode m).isPal = modeStd m := rfl
@[simp] theorem DisplayState.writeMode_is24Bit (m : BitVec 8) (d : DisplayState) : (d.writeMode m).is24Bit = modeC24 m := rfl
@[simp] theorem DisplayState.writeMode_isInterlaced (m : BitVec 8) (d : DisplayState) : (d.writeMode m).isInterlaced = modeIl m := rfl
@[simp] theorem DisplayState.writeMode_enabled (m : BitVec 8) (d : DisplayState) : (d.writeMode m).enabled = d.enabled := rfl
@[simp] theorem DisplayState.writeMode_rangeX1 (m : BitVec 8) (d : DisplayState) : (d.writeMode m).rangeX1 = d.rangeX1 := rfl
@[simp] theorem DisplayState.writeMode_rangeX2 (m : BitVec 8) (d : DisplayState) : (d.writeMode m).rangeX2 = d.rangeX2 := rfl
@[simp] theorem DisplayState.writeMode_rangeY1 (m : BitVec 8) (d : DisplayState) : (d.writeMode m).rangeY1 = d.rangeY1 := rfl
@[simp] theorem DisplayState.writeMode_rangeY2 (m : BitVec 8) (d : DisplayState) : (d.writeMode m).rangeY2 = d.rangeY2 := rfl
@[simp] theorem DisplayState.writeMode_start (m : BitVec 8) (d : DisplayState) : (d.writeMode m).start = d.start := rfl
@[simp] theorem DisplayState.writeMode_size (m : BitVec 8) (d : DisplayState) : (d.writeMode m).size = d.size := rfl
@[simp] theorem DisplayState.writeMode_startN (m : BitVec 8) (d : DisplayState) : (d.writeMode m).startN = d.startN := rfl
@[simp] theorem DisplayState.writeMode_sizeN (m : BitVec 8) (d : DisplayState) : (d.writeMode m).sizeN = d.sizeN := rfl

/-! ### `DisplayState.writeResetRanges` -/

@[simp] theorem DisplayState.writeResetRanges_drawMode (d : DisplayState) : (d.writeResetRanges).drawMode = d.drawMode := rfl
@[simp] theorem DisplayState.writeResetRanges_isPal (d : DisplayState) : (d.writeResetRanges).isPal = d.isPal := rfl
@[simp] theorem DisplayState.writeResetRanges_is24Bit (d : DisplayState) : (d.writeResetRanges).is24Bit = d.is24Bit := rfl
@[simp] theorem DisplayState.writeResetRanges_isInterlaced (d : DisplayState) : (d.writeResetRanges).isInterlaced = d.isInterlaced := rfl
@[simp] theorem DisplayState.writeResetRanges_enabled (d : DisplayState) : (d.writeResetRanges).enabled = false := rfl
@[simp] theorem DisplayState.writeResetRanges_rangeX1 (d : DisplayState) : (d.writeResetRanges).rangeX1 = config.resetX1 := rfl
@[simp] theorem DisplayState.writeResetRanges_rangeX2 (d : DisplayState) : (d.writeResetRanges).rangeX2 = config.resetX2 := rfl
@[simp] theorem DisplayState.writeResetRanges_rangeY1 (d : DisplayState) : (d.writeResetRanges).rangeY1 = config.resetY1 := rfl
@[simp] theorem DisplayState.writeResetRanges_rangeY2 (d : DisplayState) : (d.writeResetRanges).rangeY2 = config.resetY2 := rfl
@[simp] theorem DisplayState.writeResetRanges_start (d : DisplayState) : (d.writeResetRanges).start = d.start := rfl
@[simp] theorem DisplayState.writeResetRanges_size (d : DisplayState) : (d.writeResetRanges).size = d.size := rfl
@[simp] theorem DisplayState.writeResetRanges_startN (d : DisplayState) : (d.writeResetRanges).startN = d.startN := rfl
@[simp] theorem DisplayState.writeResetRanges_sizeN (d : DisplayState) : (d.writeResetRanges).sizeN = d.sizeN := rfl

/-! ### `DisplayState.normalizeStart` -/

@[simp] theorem DisplayState.normalizeStart_drawMode (b : Bool) (d : DisplayState) : (d.normalizeStart b).drawMode = d.drawMode := rfl
@[simp] theorem DisplayState.normalizeStart_isPal (b : Bool) (d : DisplayState) : (d.normalizeStart b).isPal = d.isPal := rfl
@[simp] theorem DisplayState.normalizeStart_is24Bit (b : Bool) (d : DisplayState) : (d.normalizeStart b).is24Bit = d.is24Bit := rfl
@[simp] theorem DisplayState.normalizeStart_isInterlaced (b : Bool) (d : DisplayState) : (d.normalizeStart b).isInterlaced = d.isInterlaced := rfl
@[simp] theorem DisplayState.normalizeStart_enabled (b : Bool) (d : DisplayState) : (d.normalizeStart b).enabled = d.enabled := rfl
@[simp] theorem DisplayState.normalizeStart_rangeX1 (b : Bool) (d : DisplayState) : (d.normalizeStart b).rangeX1 = d.rangeX1 := rfl
@[simp] theorem DisplayState.normalizeStart_rangeX2 (b : Bool) (d : DisplayState) : (d.normalizeStart b).rangeX2 = d.rangeX2 := rfl
@[simp] theorem DisplayState.normalizeStart_rangeY1 (b : Bool) (d : DisplayState) : (d.normalizeStart b).rangeY1 = d.rangeY1 := rfl
@[simp] theorem DisplayState.normalizeStart_rangeY2 (b : Bool) (d : DisplayState) : (d.normalizeStart b).rangeY2 = d.rangeY2 := rfl
@[simp] theorem DisplayState.normalizeStart_start (b : Bool) (d : DisplayState) : (d.normalizeStart b).start = d.start := rfl
@[simp] theorem DisplayState.normalizeStart_size (b : Bool) (d : DisplayState) : (d.normalizeStart b).size = d.size := rfl
@[simp] theorem DisplayState.normalizeStart_startN (b : Bool) (d : DisplayState) : (d.normalizeStart b).startN = normStart d.start b := rfl
@[simp] theorem DisplayState.normalizeStart_sizeN (b : Bool) (d : DisplayState) : (d.normalizeStart b).sizeN = d.sizeN := rfl

/-! ### `DisplayState.normalizeSize` -/

@[simp] theorem DisplayState.normalizeSize_drawMode (b : Bool) (d : DisplayState) : (d.normalizeSize b).drawMode = d.drawMode := rfl
@[simp] theorem DisplayState.normalizeSize_isPal (b : Bool) (d : DisplayState) : (d.normalizeSize b).isPal = d.isPal := rfl
@[simp] theorem DisplayState.normalizeSize_is24Bit (b : Bool) (d : DisplayState) : (d.normalizeSize b).is24Bit = d.is24Bit := rfl
@[simp] theorem DisplayState.normalizeSize_isInterlaced (b : Bool) (d : DisplayState) : (d.normalizeSize b).isInterlaced = d.isInterlaced := rfl
@[simp] theorem DisplayState.normalizeSize_enabled (b : Bool) (d : DisplayState) : (d.normalizeSize b).enabled = d.enabled := rfl
@[simp] theorem DisplayState.normalizeSize_rangeX1 (b : Bool) (d : DisplayState) : (d.normalizeSize b).rangeX1 = d.rangeX1 := rfl
@[simp] theorem DisplayState.normalizeSize_rangeX2 (b : Bool) (d : DisplayState) : (d.normalizeSize b).rangeX2 = d.rangeX2 := rfl
@[simp] theorem DisplayState.normalizeSize_rangeY1 (b : Bool) (d : DisplayState) : (d.normalizeSize b).rangeY1 = d.rangeY1 := rfl
@[simp] theorem DisplayState.normalizeSize_rangeY2 (b : Bool) (d : DisplayState) : (d.normalizeSize b).rangeY2 = d.rangeY2 := rfl
@[simp] theorem DisplayState.normalizeSize_start (b : Bool) (d : DisplayState) : (d.normalizeSize b).start = d.start := rfl
@[simp] theorem DisplayState.normalizeSize_size (b : Bool) (d : DisplayState) : (d.normalizeSize b).size = d.size := rfl
@[simp] theorem DisplayState.normalizeSize_startN (b : Bool) (d : DisplayState) : (d.normalizeSize b).startN = d.startN := rfl
@[simp] theorem DisplayState.normalizeSize_sizeN (b : Bool) (d : DisplayState) : (d.normalizeSize b).sizeN = normSize d.size b := rfl

/-! ### `DisplayState.updateDisplayArea` -/

@[simp] theorem DisplayState.updateDisplayArea_drawMode (b : Bool) (d : DisplayState) : (d.updateDisplayArea b).drawMode = d.drawMode := rfl
@[simp] theorem DisplayState.updateDisplayArea_isPal (b : Bool) (d : DisplayState) : (d.updateDisplayArea b).isPal = d.isPal := rfl
@[simp] theorem DisplayState.updateDisplayArea_is24Bit (b : Bool) (d : DisplayState) : (d.updateDisplayArea b).is24Bit = d.is24Bit := rfl
@[simp] theorem DisplayState.updateDisplayArea_isInterlaced (b : Bool) (d : DisplayState) : (d.updateDisplayArea b).isInterlaced = d.isInterlaced := rfl
@[simp] theorem DisplayState.updateDisplayArea_enabled (b : Bool) (d : DisplayState) : (d.updateDisplayArea b).enabled = d.enabled := rfl
@[simp] theorem DisplayState.updateDisplayArea_rangeX1 (b : Bool) (d : DisplayState) : (d.updateDisplayArea b).rangeX1 = d.rangeX1 := rfl
@[simp] theorem DisplayState.updateDisplayArea_rangeX2 (b : Bool) (d : DisplayState) : (d.updateDisplayArea b).rangeX2 = d.rangeX2 := rfl
@[simp] theorem DisplayState.updateDisplayArea_rangeY1 (b : Bool) (d : DisplayState) : (d.updateDisplayArea b).rangeY1 = d.rangeY1 := rfl
@[simp] theorem DisplayState.updateDisplayArea_rangeY2 (b : Bool) (d : DisplayState) : (d.updateDisplayArea b).rangeY2 = d.rangeY2 := rfl
@[simp] theorem DisplayState.updateDisplayArea_start (b : Bool) (d : DisplayState) : (d.updateDisplayArea b).start = d.start := rfl
@[simp] theorem DisplayState.updateDisplayArea_size (b : Bool) (d : DisplayState) : (d.updateDisplayArea b).size = derivedSize d := rfl
@[simp] theorem DisplayState.updateDisplayArea_startN (b : Bool) (d : DisplayState) : (d.updateDisplayArea b).startN = d.startN := rfl
@[simp] theorem DisplayState.updateDisplayArea_sizeN (b : Bool) (d : DisplayState) : (d.updateDisplayArea b).sizeN = normSize (derivedSize d) b := rfl

/-! ### `State.normalizeStart` -/

@[simp] theorem State.normalizeStart_ds (s : State) : (s.normalizeStart).ds = s.ds.normalizeStart s.cfg.smooth := rfl
@[simp] theorem State.normalizeStart_drawModeValid (s : State) : (s.normalizeStart).drawModeValid = s.drawModeValid := rfl
@[simp] theorem State.normalizeStart_startValid (s : State) : (s.normalizeStart).startValid = s.startValid := rfl
@[simp] theorem State.normalizeStart_cfg (s : State) : (s.normalizeStart).cfg = s.cfg := rfl
@[simp] theorem State.normalizeStart_stdWrites (s : State) : (s.normalizeStart).stdWrites = s.stdWrites := rfl
@[simp] theorem State.normalizeStart_reads (s : State) : (s.normalizeStart).reads = s.reads := rfl
@[simp] theorem State.normalizeStart_script (s : State) : (s.normalizeStart).script = s.script := rfl

/-! ### `State.normalizeSize` -/

@[simp] theorem State.normalizeSize_ds (s : State) : (s.normalizeSize).ds = s.ds.normalizeSize s.cfg.smooth := rfl
@[simp] theorem State.normalizeSize_drawModeValid (s : State) : (s.normalizeSize).drawModeValid = s.drawModeValid := rfl
@[simp] theorem State.normalizeSize_startValid (s : State) : (s.normalizeSize).startValid = s.startValid := rfl
@[simp] theorem State.normalizeSize_cfg (s : State) : (s.normalizeSize).cfg = s.cfg := rfl
@[simp] theorem State.normalizeSize_stdWrites (s : State) : (s.normalizeSize).stdWrites = s.stdWrites := rfl
@[simp] theorem State.normalizeSize_reads (s : State) : (s.normalizeSize).reads = s.reads := rfl
@[simp] theorem State.normalizeSize_script (s : State) : (s.normalizeSize).script = s.script := rfl

/-! ### `State.updateDisplayArea` -/

@[simp] theorem State.updateDisplayArea_ds (s : State) : (s.updateDisplayArea).ds = s.ds.updateDisplayArea s.cfg.smooth := rfl
@[simp] theorem State.updateDisplayArea_drawModeValid (s : State) : (s.updateDisplayArea).drawModeValid = s.drawModeValid := rfl
@[simp] theorem State.updateDisplayArea_startValid (s : State) : (s.updateDisplayArea).startValid = s.startValid := rfl
@[simp] theorem State.updateDisplayArea_cfg (s : State) : (s.updateDisplayArea).cfg = s.cfg := rfl
@[simp] theorem State.updateDisplayArea_stdWrites (s : State) : (s.updateDisplayArea).stdWrites = s.stdWrites := rfl
@[simp] theorem State.updateDisplayArea_reads (s : State) : (s.updateDisplayArea).reads = s.reads := rfl
@[simp] theorem State.updateDisplayArea_script (s : State) : (s.updateDisplayArea).script = s.script := rfl

/-! ### `State.writeVideoStd` -/

@[simp] theorem State.writeVideoStd_ds (v : VideoStd) (s : State) : (s.writeVideoStd v).ds = s.ds := rfl
@[simp] theorem State.writeVideoStd_drawModeValid (v : VideoStd) (s : State) : (s.writeVideoStd v).drawModeValid = s.drawModeValid := rfl
@[simp] theorem State.writeVideoStd_startValid (v : VideoStd) (s : State) : (s.writeVideoStd v).startValid = s.startValid := rfl
@[simp] theorem State.writeVideoStd_cfg (v : VideoStd) (s : State) : (s.writeVideoStd v).cfg = { s.cfg with videoStd := v } := rfl
@[simp] theorem State.writeVideoStd_stdWrites (v : VideoStd) (s : State) : (s.writeVideoStd v).stdWrites = s.stdWrites ++ [v] := rfl
@[simp] theorem State.writeVideoStd_reads (v : VideoStd) (s : State) : (s.writeVideoStd v).reads = s.reads := rfl
@[simp] theorem State.writeVideoStd_script (v : VideoStd) (s : State) : (s.writeVideoStd v).script = s.script := rfl

/-! ### `State.driveSmooth` -/

@[simp] theorem State.driveSmooth_ds (b : Bool) (s : State) : (s.driveSmooth b).ds = s.ds := rfl
@[simp] theorem State.driveSmooth_drawModeValid (b : Bool) (s : State) : (s.driveSmooth b).drawModeValid = s.drawModeValid := rfl
@[simp] theorem State.driveSmooth_startValid (b : Bool) (s : State) : (s.driveSmooth b).startValid = s.startValid := rfl
@[simp] theorem State.driveSmooth_cfg (b : Bool) (s : State) : (s.driveSmooth b).cfg = { s.cfg with smooth := b } := rfl
@[simp] theorem State.driveSmooth_stdWrites (b : Bool) (s : State) : (s.driveSmooth b).stdWrites = s.stdWrites := rfl
@[simp] theorem State.driveSmooth_reads (b : Bool) (s : State) : (s.driveSmooth b).reads = s.reads := rfl
@[simp] theorem State.driveSmooth_script (b : Bool) (s : State) : (s.driveSmooth b).script = s.script := rfl

/-! ### `State.driveAutoStd` -/

@[simp] theorem State.driveAutoStd_ds (b : Bool) (s : State) : (s.driveAutoStd b).ds = s.ds := rfl
@[simp] theorem State.driveAutoStd_drawModeValid (b : Bool) (s : State) : (s.driveAutoStd b).drawModeValid = s.drawModeValid := rfl
@[simp] theorem State.driveAutoStd_startValid (b : Bool) (s : State) : (s.driveAutoStd b).startValid = s.startValid := rfl
@[simp] theorem State.driveAutoStd_cfg (b : Bool) (s : State) : (s.driveAutoStd b).cfg = { s.cfg with autoStd := b } := rfl
@[simp] theorem State.driveAutoStd_stdWrites (b : Bool) (s : State) : (s.driveAutoStd b).stdWrites = s.stdWrites := rfl
@[simp] theorem State.driveAutoStd_reads (b : Bool) (s : State) : (s.driveAutoStd b).reads = s.reads := rfl
@[simp] theorem State.driveAutoStd_script (b : Bool) (s : State) : (s.driveAutoStd b).script = s.script := rfl

/-! ### `State.otherWritesVideoStd` -/

@[simp] theorem State.otherWritesVideoStd_ds (v : VideoStd) (s : State) : (s.otherWritesVideoStd v).ds = s.ds := rfl
@[simp] theorem State.otherWritesVideoStd_drawModeValid (v : VideoStd) (s : State) : (s.otherWritesVideoStd v).drawModeValid = s.drawModeValid := rfl
@[simp] theorem State.otherWritesVideoStd_startValid (v : VideoStd) (s : State) : (s.otherWritesVideoStd v).startValid = s.startValid := rfl
@[simp] theorem State.otherWritesVideoStd_cfg (v : VideoStd) (s : State) : (s.otherWritesVideoStd v).cfg = { s.cfg with videoStd := v } := rfl
@[simp] theorem State.otherWritesVideoStd_stdWrites (v : VideoStd) (s : State) : (s.otherWritesVideoStd v).stdWrites = s.stdWrites := rfl
@[simp] theorem State.otherWritesVideoStd_reads (v : VideoStd) (s : State) : (s.otherWritesVideoStd v).reads = s.reads := rfl
@[simp] theorem State.otherWritesVideoStd_script (v : VideoStd) (s : State) : (s.otherWritesVideoStd v).script = s.script := rfl

/-! ### `State.live` -/

theorem State.live_iff (s : State) : s.live = true ↔ s.drawModeValid = true ∧ s.startValid = true := by
  simp [State.live]

end Sys2Proof.Machine
end

