-- ==== Sys2Proof/Laws/Geometry.lean ====
section
/-!
SUPPORT. Arithmetic facts of the Geometry Deriver's steps.
-/

namespace Sys2Proof.Machine

/-- Every divider is one of the five of R59; none is 0. -/
theorem divider_mem (m : BitVec 8) : divider m ∈ [10, 8, 7, 5, 4] := by
  revert m; decide

theorem divider_pos (m : BitVec 8) : 0 < divider m := by
  have h := divider_mem m
  simp only [List.mem_cons, List.not_mem_nil, or_false] at h
  omega

/-- A rounded end is a multiple of the divider. -/
theorem dvd_roundedX (x cycles div : Nat) : div ∣ roundedX x cycles div := Dvd.intro_left _ rfl

/-- Rounding never goes above the clamped value. -/
theorem roundedX_le (x cycles div : Nat) : roundedX x cycles div ≤ min x cycles :=
  Nat.div_mul_le_self _ _

/-- The width is a multiple of the alignment. -/
theorem dvd_pixelWidth (span div : Nat) : config.widthAlign ∣ pixelWidth span div :=
  Nat.dvd_sub_mod _

/-- The span between two rounded ends is a multiple of the divider. -/
theorem dvd_spanOf {div rx1 rx2 : Nat} (h1 : div ∣ rx1) (h2 : div ∣ rx2) : div ∣ spanOf rx1 rx2 :=
  Nat.dvd_sub h2 h1

/-- No reading of `NEG_HEIGHT` matters where the range is not inverted. -/
theorem frameHeight_of_le (r : NegHeight) {lines cy1 cy2 : Nat} (h : cy1 ≤ cy2) (hl : cy2 ≤ lines) :
    frameHeight r lines cy1 cy2 = cy2 - cy1 := by
  cases r <;> simp only [frameHeight] <;> omega

/-- What steps 1 to 6 read: the mode, the two flags they select on, and the four range registers (R58). -/
theorem derivedSize_congr {d e : DisplayState} (hm : e.drawMode = d.drawMode) (hp : e.isPal = d.isPal)
    (hi : e.isInterlaced = d.isInterlaced) (hx1 : e.rangeX1 = d.rangeX1) (hx2 : e.rangeX2 = d.rangeX2)
    (hy1 : e.rangeY1 = d.rangeY1) (hy2 : e.rangeY2 = d.rangeY2) : derivedSize e = derivedSize d := by
  simp only [derivedSize, derivedWidth, derivedHeight, hm, hp, hi, hx1, hx2, hy1, hy2]

@[simp] theorem derivedSize_normalizeStart (b : Bool) (d : DisplayState) :
    derivedSize (d.normalizeStart b) = derivedSize d := rfl

@[simp] theorem derivedSize_normalizeSize (b : Bool) (d : DisplayState) :
    derivedSize (d.normalizeSize b) = derivedSize d := rfl

@[simp] theorem derivedSize_updateDisplayArea (b : Bool) (d : DisplayState) :
    derivedSize (d.updateDisplayArea b) = derivedSize d := rfl

/-- The cold-boot rectangle: mode 0 and the reset ranges give 256 by 247 (70_reset_and_hazards.md R88). -/
theorem derivedSize_reset {d : DisplayState} (hm : d.drawMode = 0#8) (hp : d.isPal = false)
    (hi : d.isInterlaced = false) (hx1 : d.rangeX1 = config.resetX1) (hx2 : d.rangeX2 = config.resetX2)
    (hy1 : d.rangeY1 = config.resetY1) (hy2 : d.rangeY2 = config.resetY2) : derivedSize d = ⟨256#10, 247#10⟩ :=
  (derivedSize_congr (d := DisplayState.afterReset) hm hp hi hx1 hx2 hy1 hy2).trans (by decide)

end Sys2Proof.Machine
end

