-- ==== Sys2Proof/Laws/Ops.lean ====
section
/-!
SUPPORT. For each shared operation, once, everything it can do.
-/

namespace Sys2Proof.Machine

/-- An operation guarded by the first `Reset` answers a next state exactly where `DS` holds values. -/
theorem whenLive_next_iff (op : State → State) (s t : State) :
    whenLive op s = .next t ↔ s.live = true ∧ t = op s := by
  unfold whenLive
  by_cases h : s.live = true <;> simp [h, eq_comm]

/-- On a live state the guard is transparent. -/
theorem whenLive_of_live {op : State → State} {s : State} (h : s.live = true) :
    whenLive op s = .next (op s) := by simp [whenLive, h]

/-- Before the first `Reset` the guard refuses, whatever the operation. -/
theorem whenLive_of_not_live {op : State → State} {s : State} (h : s.live = false) :
    whenLive op s = .refused .operationBeforeFirstReset := by simp [whenLive, h]

/-- A set mark makes the gate a plain comparison. -/
theorem coldGate_of_valid (fires differs : Bool) : coldGate fires true differs = differs := by
  simp [coldGate]

/-- A clear mark opens a firing gate. -/
theorem coldGate_fires (differs : Bool) : coldGate true false differs = true := by
  simp [coldGate]

/-- `PropagateStandard` either writes the store once or does nothing. -/
theorem propagateStandard_cases (s : State) :
    (s.cfg.autoStd = true ∧ s.propagateStandard = s.writeVideoStd (standardOf s.ds.isPal)) ∨
      (s.cfg.autoStd = false ∧ s.propagateStandard = s) := by
  cases h : s.cfg.autoStd <;> simp [State.propagateStandard, h]

@[simp] theorem propagateStandard_ds (s : State) : s.propagateStandard.ds = s.ds := by
  obtain ⟨_, h⟩ | ⟨_, h⟩ := propagateStandard_cases s <;> rw [h]; rfl

@[simp] theorem propagateStandard_drawModeValid (s : State) :
    s.propagateStandard.drawModeValid = s.drawModeValid := by
  obtain ⟨_, h⟩ | ⟨_, h⟩ := propagateStandard_cases s <;> rw [h]; rfl

@[simp] theorem propagateStandard_startValid (s : State) :
    s.propagateStandard.startValid = s.startValid := by
  obtain ⟨_, h⟩ | ⟨_, h⟩ := propagateStandard_cases s <;> rw [h]; rfl

@[simp] theorem propagateStandard_smooth (s : State) :
    s.propagateStandard.cfg.smooth = s.cfg.smooth := by
  obtain ⟨_, h⟩ | ⟨_, h⟩ := propagateStandard_cases s <;> rw [h]; rfl

@[simp] theorem propagateStandard_autoStd (s : State) :
    s.propagateStandard.cfg.autoStd = s.cfg.autoStd := by
  obtain ⟨_, h⟩ | ⟨_, h⟩ := propagateStandard_cases s <;> rw [h]; rfl

@[simp] theorem propagateStandard_reads (s : State) : s.propagateStandard.reads = s.reads := by
  obtain ⟨_, h⟩ | ⟨_, h⟩ := propagateStandard_cases s <;> rw [h]; rfl

@[simp] theorem propagateStandard_script (s : State) : s.propagateStandard.script = s.script := by
  obtain ⟨_, h⟩ | ⟨_, h⟩ := propagateStandard_cases s <;> rw [h]; rfl

/-- `SetDisplayStart` as a procedure: its gate is closed and nothing happens, or the masked start is stored
and the start normalizer runs. -/
theorem setDisplayStart_cases (fires : Bool) (x : BitVec 10) (y : BitVec 9) (s : State) :
    (startGate fires (maskStartX x) y s = false ∧ s.setDisplayStart fires x y = s) ∨
      (startGate fires (maskStartX x) y s = true ∧
        s.setDisplayStart fires x y =
          { s with
            ds := { s.ds with start := ⟨maskStartX x, y⟩, startN := normStart ⟨maskStartX x, y⟩ s.cfg.smooth }
            startValid := true }) := by
  cases h : startGate fires (maskStartX x) y s <;>
    simp [State.setDisplayStart, h, State.normalizeStart, DisplayState.normalizeStart]

/-- `SetHorizontalRange` as a procedure: closed gate, or both ends stored and the Deriver run. -/
theorem setHorizontalRange_cases (x1 x2 : BitVec 12) (s : State) :
    (x1 = s.ds.rangeX1 ∧ x2 = s.ds.rangeX2 ∧ s.setHorizontalRange x1 x2 = s) ∨
      ((x1 ≠ s.ds.rangeX1 ∨ x2 ≠ s.ds.rangeX2) ∧
        s.setHorizontalRange x1 x2 =
          State.updateDisplayArea { s with ds := { s.ds with rangeX1 := x1, rangeX2 := x2 } }) := by
  by_cases h1 : x1 = s.ds.rangeX1 <;> by_cases h2 : x2 = s.ds.rangeX2 <;>
    simp [State.setHorizontalRange, horizontalGate, h1, h2]

/-- `SetVerticalRange` as a procedure: closed gate, or both ends stored and the Deriver run. -/
theorem setVerticalRange_cases (y1 y2 : BitVec 10) (s : State) :
    (y1 = s.ds.rangeY1 ∧ y2 = s.ds.rangeY2 ∧ s.setVerticalRange y1 y2 = s) ∨
      ((y1 ≠ s.ds.rangeY1 ∨ y2 ≠ s.ds.rangeY2) ∧
        s.setVerticalRange y1 y2 =
          State.updateDisplayArea { s with ds := { s.ds with rangeY1 := y1, rangeY2 := y2 } }) := by
  by_cases h1 : y1 = s.ds.rangeY1 <;> by_cases h2 : y2 = s.ds.rangeY2 <;>
    simp [State.setVerticalRange, verticalGate, h1, h2]

/-- `SetMode` as a procedure: closed gate, or mode and flags stored, the standard propagated, the Deriver
run. -/
theorem setMode_cases (fires : Bool) (m : BitVec 8) (s : State) :
    (modeGate fires m s = false ∧ s.setMode fires m = s) ∨
      (modeGate fires m s = true ∧
        s.setMode fires m =
          State.updateDisplayArea
            (State.propagateStandard { s with ds := s.ds.writeMode m, drawModeValid := true })) := by
  cases h : modeGate fires m s <;> simp [State.setMode, h]

/-- `PropagateStandard` in closed form. -/
theorem propagateStandard_eq (s : State) :
    s.propagateStandard =
      { s with
        cfg := if s.cfg.autoStd then { s.cfg with videoStd := standardOf s.ds.isPal } else s.cfg
        stdWrites := if s.cfg.autoStd then s.stdWrites ++ [standardOf s.ds.isPal] else s.stdWrites } := by
  unfold State.propagateStandard
  split <;> rfl

/-- The direct writes of `Reset` do not touch what the mode gate compares. -/
theorem modeGate_writeResetRanges (fires : Bool) (m : BitVec 8) (s : State) :
    modeGate fires m { s with ds := s.ds.writeResetRanges } = modeGate fires m s := rfl

/-- `SetMode` leaves the start register and its mark alone. -/
theorem setMode_start (fires : Bool) (m : BitVec 8) (s : State) :
    (s.setMode fires m).ds.start = s.ds.start ∧ (s.setMode fires m).startValid = s.startValid := by
  obtain ⟨_, h⟩ | ⟨_, h⟩ := setMode_cases fires m s <;> rw [h] <;> simp

/-- So the start gate is the same before and after a `SetMode`. -/
theorem startGate_setMode (fires : Bool) (x : BitVec 10) (y : BitVec 9) (m : BitVec 8) (s : State) :
    startGate fires x y (s.setMode fires m) = startGate fires x y s := by
  obtain ⟨h1, h2⟩ := setMode_start fires m s
  simp only [startGate, h1, h2]

/-- `Reset` as a procedure, in closed form over its two gates: the one lemma to cite about it. -/
theorem resetEngine_eq (fires : Bool) (s : State) :
    s.resetEngine fires =
      (let d := if modeGate fires 0#8 s then s.ds.writeResetRanges.writeMode 0#8 else s.ds.writeResetRanges
      { ds := { d with
          start := if startGate fires 0#10 0#9 s then ⟨0#10, 0#9⟩ else s.ds.start
          startN := if startGate fires 0#10 0#9 s then normStart ⟨0#10, 0#9⟩ s.cfg.smooth else s.ds.startN
          size := derivedSize d
          sizeN := normSize (derivedSize d) s.cfg.smooth }
        drawModeValid := true
        startValid := true
        cfg := if modeGate fires 0#8 s && s.cfg.autoStd then { s.cfg with videoStd := .ntsc } else s.cfg
        stdWrites :=
          if modeGate fires 0#8 s && s.cfg.autoStd then s.stdWrites ++ [.ntsc] else s.stdWrites
        reads := s.reads
        script := s.script } : State) := by
  have hg : startGate fires (maskStartX 0#10) 0#9 (State.setMode fires 0#8 { s with ds := s.ds.writeResetRanges }) =
      startGate fires 0#10 0#9 s := startGate_setMode fires 0#10 0#9 0#8 _
  simp only [State.resetEngine, State.setDisplayStart, hg]
  simp only [State.setMode, modeGate_writeResetRanges, State.propagateStandard]
  cases hm : modeGate fires 0#8 s <;> cases hs : startGate fires 0#10 0#9 s <;> cases ha : s.cfg.autoStd <;>
    simp [ha, State.updateDisplayArea, DisplayState.updateDisplayArea, DisplayState.normalizeSize,
      State.normalizeStart, DisplayState.normalizeStart, State.writeVideoStd, standardOf, modeStd, maskStartX] <;>
    first | rfl | exact ⟨rfl, rfl⟩
/-- After `Reset` both marks stand, whatever the gates did. -/
@[simp] theorem resetEngine_live (fires : Bool) (s : State) : (s.resetEngine fires).live = true := rfl

/-- A host read answers the port's value, or faults before the first `Reset`. -/
theorem readPort_cases (p : Port) (s : State) :
    (s.live = true ∧ readPort p s = .next { s with reads := s.reads ++ [(p, portValue s.ds p)] }) ∨
      (s.live = false ∧ readPort p s = .fault .readBeforeFirstReset) := by
  cases h : s.live <;> simp [readPort, h]

/-- A read port shows no more bits than it has wires. -/
theorem portValue_lt (d : DisplayState) (p : Port) : (portValue d p).toNat < 2 ^ portWidth p := by
  cases p <;> simp only [portValue, portWidth, BitVec.toNat_setWidth] <;> first
    | exact BitVec.isLt _
    | exact Nat.lt_of_le_of_lt (Nat.mod_le _ _) (BitVec.isLt _)

end Sys2Proof.Machine
end

