-- ==== Sys2Proof/Laws/PerInstr.lean ====
section
/-!
SUPPORT. Facts of each operation as syntax, one lemma per constructor.
-/

namespace Sys2Proof.Laws.EncodeSelect

/-- The encoder writes the row's select code into bits 34:32 (30_encoding.md R37). -/
def Statement (i : Instr) : Prop := selectOf (encode i) = selectCode i

theorem reset : Statement .reset := selectOf_transaction _ _

theorem setDisplayStart (x : BitVec 10) (y : BitVec 9) : Statement (.setDisplayStart x y) :=
  selectOf_transaction _ _

theorem setHorizontalRange (x1 x2 : BitVec 12) : Statement (.setHorizontalRange x1 x2) :=
  selectOf_transaction _ _

theorem setVerticalRange (y1 y2 : BitVec 10) : Statement (.setVerticalRange y1 y2) :=
  selectOf_transaction _ _

theorem setMode (m : BitVec 8) : Statement (.setMode m) := selectOf_transaction _ _

theorem refreshSmoothingAdjustment : Statement .refreshSmoothingAdjustment := selectOf_transaction _ _

theorem writeEnabled (e : Bool) : Statement (.writeEnabled e) := selectOf_transaction _ _

theorem reserved7 : Statement .reserved7 := selectOf_transaction _ _

end Sys2Proof.Laws.EncodeSelect
end

