-- ==== Sys2Proof/Laws/Step.lean ====
section
/-!
SUPPORT. Everything one operation and one step can do, once: later proofs cite these and unfold neither `exec` nor
`step`.
-/

namespace Sys2Proof.Machine

/-- The setting of `COLD_GATES_FIRE` the machine runs under (D16). -/
theorem config_coldGatesFire : config.coldGatesFire = true := rfl

/-- A live state has both valid marks. -/
theorem marks_of_live {s : State} (h : s.live = true) : s.drawModeValid = true ∧ s.startValid = true := by
  simpa [State.live] using h

/-- An operation answers a next state exactly so: `Reset` always, the six others once `DS` holds values. -/
theorem exec_next_iff (i : Instr) (s t : State) :
    exec i s = .next t ↔
      (i = .reset ∧ t = s.resetEngine true) ∨
      (s.live = true ∧
        ((∃ x y, i = .setDisplayStart x y ∧ t = s.setDisplayStart true x y) ∨
          (∃ a b, i = .setHorizontalRange a b ∧ t = s.setHorizontalRange a b) ∨
          (∃ a b, i = .setVerticalRange a b ∧ t = s.setVerticalRange a b) ∨
          (∃ m, i = .setMode m ∧ t = s.setMode true m) ∨
          (i = .refreshSmoothingAdjustment ∧ t = s.normalizeStart.normalizeSize) ∨
          (∃ e, i = .writeEnabled e ∧ t = { s with ds := { s.ds with enabled := e } }))) := by
  cases i <;>
    simp only [exec, execReset, execSetDisplayStart, execSetHorizontalRange, execSetVerticalRange, execSetMode,
      execRefreshSmoothingAdjustment, execWriteEnabled, execReserved7, whenLive_next_iff, config_coldGatesFire] <;>
    simp
  exact eq_comm

/-- A step that answers a next state is one of these: the idle engine, an operation, one of the three inputs
changed, or a read of a live port. -/
theorem step_next_cases {s t : State} (h : step s = .next t) :
    (s.script = [] ∧ t = s) ∨
    (∃ w rest, s.script = .transact w :: rest ∧ exec (decode w) { s with script := rest } = .next t) ∨
    (∃ b rest, s.script = .setSmooth b :: rest ∧ t = State.driveSmooth b { s with script := rest }) ∨
    (∃ b rest, s.script = .setAutoStd b :: rest ∧ t = State.driveAutoStd b { s with script := rest }) ∨
    (∃ v rest, s.script = .setVideoStd v :: rest ∧ t = State.otherWritesVideoStd v { s with script := rest }) ∨
    (∃ p rest, s.script = .read p :: rest ∧ s.live = true ∧
      t = { s with script := rest, reads := s.reads ++ [(p, portValue s.ds p)] }) := by
  unfold step at h
  split at h
  case h_6 p rest e =>
    obtain ⟨hl, hr⟩ | ⟨_, hr⟩ := readPort_cases p { s with script := rest } <;> rw [hr] at h <;> cases h
    exact .inr (.inr (.inr (.inr (.inr ⟨p, rest, e, hl, rfl⟩))))
  case h_1 e => cases h; exact .inl ⟨e, rfl⟩
  case h_2 w rest e => exact .inr (.inl ⟨w, rest, e, h⟩)
  case h_3 b rest e => cases h; exact .inr (.inr (.inl ⟨b, rest, e, rfl⟩))
  case h_4 b rest e => cases h; exact .inr (.inr (.inr (.inl ⟨b, rest, e, rfl⟩)))
  case h_5 v rest e => cases h; exact .inr (.inr (.inr (.inr (.inl ⟨v, rest, e, rfl⟩))))

/-- The word `withFetchWord` puts on the ports is the table's word, cut to a transaction's 35 bits. -/
theorem step_withFetchWord (s : State) (nbits w : Nat) :
    step (s.withFetchWord nbits w) = exec (decode (BitVec.ofNat 35 (w % 2 ^ nbits))) s := rfl

end Sys2Proof.Machine
end

