-- ==== Sys2Proof/Tests/Slice0.lean ====
section
/-!
SUPPORT. The model's own tests: expected values are those of 95_test_vectors.md (its sections are named), or words
written out from the patterns of 30_encoding.md section 6. Then, for each obligation with hypotheses, a witness that
they can be met, clause by clause.
-/

namespace Sys2Proof.Tests

open Sys2Proof Sys2Proof.Machine

/-! ### Helpers -/

/-- The next state, if the answer is one. -/
def after : Host.Outcome State Fault Refusal → Option State
  | .next s => some s
  | .fault _ => none
  | .refused _ => none

/-- `DS` after one operation. -/
def dsAfter (i : Instr) (s : State) : Option DisplayState := (after (exec i s)).map (·.ds)

/-- The reset state with the two flags of the store set. -/
def ready (smooth autoStd : Bool) : State :=
  { State.reset with cfg := ⟨smooth, autoStd, .ntsc⟩ }

/-- Program P1 after step 6, `cfg.autoStd` set. -/
def busy : State :=
  { State.reset with
    ds :=
      { drawMode := 0x29#8, isPal := true, is24Bit := false, isInterlaced := true, enabled := true
        rangeX1 := 0x260#12, rangeX2 := 0xC60#12, rangeY1 := 35#10, rangeY2 := 291#10
        start := ⟨320#10, 256#9⟩, size := ⟨320#10, 512#10⟩
        startN := ⟨0x3EA00000#32, 0x3F000000#32⟩, sizeN := ⟨0x3EA00000#32, 0x3F800000#32⟩ }
    cfg := ⟨false, true, .pal⟩ }

/-- The end state of program P3: the largest rectangle at the largest start. -/
def largest : State :=
  { State.reset with
    ds :=
      { drawMode := 0x2B#8, isPal := true, is24Bit := false, isInterlaced := true, enabled := false
        rangeX1 := 0x000#12, rangeX2 := 0xFFF#12, rangeY1 := 0x000#10, rangeY2 := 0x3FF#10
        start := ⟨1022#10, 511#9⟩, size := ⟨852#10, 628#10⟩
        startN := ⟨0x3F7FC000#32, 0x3F800000#32⟩, sizeN := ⟨0x3F548000#32, 0x3F9C8000#32⟩ }
    cfg := ⟨true, false, .ntsc⟩ }

/-- `DS` with a mode (flags consistent with it) and four range registers. -/
def shape (m : BitVec 8) (x1 x2 : BitVec 12) (y1 y2 : BitVec 10) : DisplayState :=
  { DisplayState.afterReset.writeMode m with rangeX1 := x1, rangeX2 := x2, rangeY1 := y1, rangeY2 := y2 }

/-! ### Well-formedness -/

theorem test_odd_startX_is_ill_formed : (Instr.setDisplayStart 3 0).wellFormed = false := by decide

theorem test_odd_startX_pseudo_form_is_ill_formed : (PseudoForm.displayStart 1023 511).wellFormed = false := by decide

theorem test_even_startX_is_well_formed : (Instr.setDisplayStart 1022 511).wellFormed = true := by decide

/-- An ill-formed term has no word of its own: its word decodes to the masked operation. -/
theorem test_ill_formed_does_not_round_trip :
    decode (encode (.setDisplayStart 3 0)) ≠ .setDisplayStart 3 0 := by decide

/-! ### Decoding: words written out bit by bit from the patterns of 30_encoding.md section 6 -/

theorem test_decode_reset :
    decode (0b000#3 ++ 0b11111111111111111111111111111111#32) = .reset := by decide

/-- `startY = 256`, `startX = 320` with its bit 0 set in the word, every ignored bit set. -/
theorem test_decode_setDisplayStart :
    decode (0b001#3 ++ 0b1111111111111#13 ++ 0b100000000#9 ++ 0b010100000#9 ++ 0b1#1) =
      .setDisplayStart 320 256 := by decide

theorem test_decode_setHorizontalRange :
    decode (0b010#3 ++ 0b11111111#8 ++ 0b110001100000#12 ++ 0b001001100000#12) =
      .setHorizontalRange 0x260 0xC60 := by decide

theorem test_decode_setVerticalRange :
    decode (0b011#3 ++ 0b111111111111#12 ++ 0b0100100011#10 ++ 0b0000100011#10) =
      .setVerticalRange 35 291 := by decide

theorem test_decode_setMode :
    decode (0b100#3 ++ 0b111111111111111111111111#24 ++ 0b00101001#8) = .setMode 0x29 := by decide

theorem test_decode_refreshSmoothingAdjustment :
    decode (0b101#3 ++ 0b10000000000000000000000000000001#32) = .refreshSmoothingAdjustment := by decide

theorem test_decode_writeEnabled :
    decode (0b110#3 ++ 0b1111111111111111111111111111111#31 ++ 0b0#1) = .writeEnabled false := by decide

theorem test_decode_reserved7 :
    decode (0b111#3 ++ 0b00000000000000000000000000000000#32) = .reserved7 := by decide

/-- Section 2.1, the row `0x12345678` under four layouts. -/
theorem test_decode_one_word_under_each_layout :
    [1, 2, 3, 4].map (fun op => decode (transaction op 0x12345678)) =
      [.setDisplayStart 632 277, .setHorizontalRange 0x678 0x345, .setVerticalRange 0x278 0x115,
        .setMode 0x78] := by decide

/-- The row `0xFFF80001`. -/
theorem test_decode_high_bits_under_each_layout :
    [1, 2, 3, 4, 6].map (fun op => decode (transaction op 0xFFF80001)) =
      [.setDisplayStart 0 0, .setHorizontalRange 0x001 0xF80, .setVerticalRange 0x001 0x200,
        .setMode 0x01, .writeEnabled true] := by decide

/-- R37: the ports have 35 wires. -/
theorem test_wider_number_is_rejected :
    decodeTableWord 40 0x800000000 = none ∧ decodeNumber 0x800000000 = .error .widerThanATransaction := by
  exact ⟨by decide, by rfl⟩

theorem test_widest_transaction_decodes : decodeTableWord 40 0x7FFFFFFFF = some .reserved7 := by decide

/-- The transaction words of program P1. -/
theorem test_encode_program_words :
    [.reset, .setMode 0x29, .setHorizontalRange 0x260 0xC60, .setVerticalRange 35 291,
        .setDisplayStart 320 256, .writeEnabled true, .refreshSmoothingAdjustment].map encode =
      [0x000000000, 0x400000029, 0x200C60260, 0x300048C23, 0x100040140, 0x600000001, 0x500000000] := by decide

/-- R48: a host program's line. -/
theorem test_host_line :
    hostLine (.transact 0x200C60260) = some "SetHorizontalRange 0x00C60260".toList ∧
    hostLine (.transact 0x5FFFFFFFF) = some "RefreshSmoothingAdjustment".toList ∧
    hostLine (.setSmooth true) = some "cfg.smooth := 1".toList := by
  exact ⟨by rfl, by rfl, by rfl⟩

/-! ### One step: the setters -/

/-- Section 2.2: bit 0 and bits 31:19 are not part of the fields, so the gate stays closed. -/
theorem test_setDisplayStart_closed :
    [0x00000000, 0x00000001, 0xFFF80000].map (fun w => after (step ((ready false true).issue 1 w))) =
      List.replicate 3 (some (ready false true)) := by decide

/-- Program P1 step 5 and section 2.5: the stored pair and its binary32 words with smoothing on. -/
theorem test_setDisplayStart_open :
    (dsAfter (decode 0x100040141) (ready true false)).map (fun d => (d.start, d.startN, d.sizeN)) =
      some (⟨320, 256⟩, ⟨0x3EA08000, 0x3F008000⟩, ⟨0x3E800000, 0x3EF70000⟩) := by decide

/-- Section 2.2. -/
theorem test_setHorizontalRange_closed :
    after (step ((ready false true).issue 2 0xFFC00200)) = some (ready false true) := by decide

/-- Section 2.4, the inverted horizontal range: the raw ends are stored, the width is 0. -/
theorem test_setHorizontalRange_inverted :
    (dsAfter (.setHorizontalRange 0xC00 0x200) (ready true false)).map
        (fun d => (d.rangeX1, d.rangeX2, d.size, d.sizeN, d.startN)) =
      some (0xC00, 0x200, ⟨0, 247⟩, ⟨0xBB000000, 0x3EF50000⟩, ⟨0, 0⟩) := by decide

/-- Section 2.2. -/
theorem test_setVerticalRange_open :
    (dsAfter (decode 0x300094011) (ready false true)).map (fun d => (d.rangeY1, d.rangeY2, d.size)) =
      some (0x011, 0x250, ⟨256, 246⟩) := by decide

/-- Program P3 step 2, the inverted vertical range under `NEG_HEIGHT = zero` (D10). -/
theorem test_setVerticalRange_inverted :
    (dsAfter (decode 0x300004100) (ready false true)).map (fun d => (d.rangeY1, d.rangeY2, d.size, d.sizeN)) =
      some (0x100, 0x010, ⟨256, 0⟩, ⟨0x3E800000, 0x00000000⟩) := by decide

/-- Section 2.3, the row `0x00000038`, `cfg.autoStd = 1`. -/
theorem test_setMode_pal_writes_the_store :
    (after (exec (decode 0x400000038) (ready false true))).map
        (fun s => ([s.ds.isPal, s.ds.is24Bit, s.ds.isInterlaced], s.ds.size, s.cfg.videoStd, s.stdWrites)) =
      some ([true, true, true], ⟨256, 596⟩, .pal, [.pal]) := by decide

/-- Section 2.3, the row `0x00000008`, `cfg.autoStd = 0`. -/
theorem test_setMode_without_autoStd :
    (after (exec (decode 0x400000008) (ready false false))).map
        (fun s => (s.ds.isPal, s.ds.size, s.cfg.videoStd, s.stdWrites)) =
      some (true, ⟨256, 298⟩, .ntsc, []) := by decide

/-- 10_state.md R25, the write port's encoding. -/
theorem test_videoStd_code : videoStdCode (standardOf true) = 1 ∧ videoStdCode (standardOf false) = 0 := by decide

/-- Section 2.8. -/
theorem test_writeEnabled_only_bit_0 :
    [0x600000001, 0x6FFFFFFFE, 0x6FFFFFFFF].map (fun t => (dsAfter (decode t) busy).map (·.enabled)) =
      [some true, some false, some true] := by decide

/-! ### One step: refresh, reset, the reserved select -/

/-- Section 2.7, first row. -/
theorem test_refresh_smooth :
    (dsAfter .refreshSmoothingAdjustment (busy.driveSmooth true)).map (fun d => (d.startN, d.sizeN)) =
      some (⟨f32 321 1024, f32 257 512⟩, ⟨f32 318 1024, f32 510 512⟩) := by decide

/-- Section 2.7, third row; the words are those of section 2.5. -/
theorem test_refresh_zero_rectangle :
    (dsAfter .refreshSmoothingAdjustment
        { ready true false with ds := { DisplayState.afterReset with size := ⟨0, 0⟩ } }).map
        (fun d => (d.startN, d.sizeN)) =
      some (⟨0x3A800000, 0x3B000000⟩, ⟨0xBB000000, 0xBB800000⟩) := by decide

/-- Section 2.6, second row: the first `Reset` under smoothing. -/
theorem test_first_reset_smooth :
    (after (exec .reset { State.powerOn with cfg := ⟨true, false, .pal⟩ })).map
        (fun s => (s.ds.startN, s.ds.sizeN, s.cfg.videoStd, s.stdWrites)) =
      some (⟨0x3A800000, 0x3B000000⟩, ⟨0x3E7E0000, 0x3EF50000⟩, .pal, []) := by decide

/-- Section 2.6, last row: a start pair left stale. -/
theorem test_later_reset_leaves_a_stale_pair :
    (dsAfter .reset (ready true false)).map (fun d => (d.startN, d.sizeN)) =
      some (⟨0, 0⟩, ⟨0x3E7E0000, 0x3EF50000⟩) := by decide

/-- Section 2.8: refused, not a no-op. -/
theorem test_reserved_select_is_refused : step (busy.issue 7 0) = .refused .reservedSelect := rfl

/-- 10_state.md R27: a read before the first `Reset`. -/
theorem test_cold_read_faults :
    step { State.powerOn with script := [.read .sizeW] } = .fault .readBeforeFirstReset := rfl

/-- The read ports of `size` in the end state of P3. -/
theorem test_read_ports :
    (after (step { largest with script := [.read .sizeH] })).map (·.reads) = some [(.sizeH, 628)] := by decide

/-! ### The Deriver and the normalizers (sections 2.4 and 2.5) -/

theorem test_eight_selectors :
    [0x00, 0x40, 0x01, 0x41, 0x02, 0x42, 0x03, 0x43].map
        (fun m => derivedWidth (shape m 0x200 0xC00 0x010 0x250)) =
      [256, 364, 320, 364, 512, 364, 640, 364] := by decide

theorem test_width_rounding :
    [0, 9, 10, 19, 20, 59, 60, 70, 3413, 4095].map (fun x2 => derivedWidth (shape 0x00 0 x2 0x010 0x250)) =
      [0, 0, 0, 0, 4, 4, 8, 8, 340, 340] := by decide

theorem test_height_50Hz_interlaced :
    [(0, 314), (35, 291), (300, 400), (314, 313), (400, 300)].map
        (fun (y : BitVec 10 × BitVec 10) => derivedHeight (shape 0x28 0 0 y.1 y.2)) =
      [628, 512, 28, 0, 0] := by decide

/-- The inverted rows under the other settings of `NEG_HEIGHT`. -/
theorem test_negHeight_readings :
    [NegHeight.zero, .full, .negative].map (fun r => (frameHeight r 263 256 16, frameHeight r 314 314 300)) =
      [(0, 0), (263, 314), (-240, -14)] := by decide

/-- 70_reset_and_hazards.md R89: with `COLD_GATES_FIRE` false, from zero contents, no write of the store. -/
theorem test_cold_gates_closed :
    (State.resetEngine false { State.powerOn with cfg := ⟨true, true, .pal⟩ }).stdWrites = [] ∧
    (State.resetEngine false { State.powerOn with cfg := ⟨true, true, .pal⟩ }).ds.startN = ⟨0, 0⟩ := by decide

theorem test_binary32_words :
    [normStart ⟨1022, 511⟩ false, normStart ⟨1022, 511⟩ true, normSize ⟨364, 298⟩ false,
        normSize ⟨852, 628⟩ true, normSize ⟨4, 1⟩ true] =
      [⟨0x3F7F8000, 0x3F7F8000⟩, ⟨0x3F7FC000, 0x3F800000⟩, ⟨0x3EB60000, 0x3F150000⟩,
        ⟨0x3F548000, 0x3F9C8000⟩, ⟨0x3B000000, 0xBB000000⟩] := by decide

/-! ### Witnesses: the hypotheses of each obligation can be met -/

theorem witness_busy_is_live : busy.live = true := by decide

theorem witness_busy_meets_the_invariant : Inv busy ∧ Consistent busy := by decide

theorem witness_largest_meets_the_invariant : Inv largest ∧ largest.live = true ∧ Consistent largest := by decide

/-- One operation of each kind completes from a live state. -/
theorem witness_every_operation_completes :
    (∃ t, exec .reset busy = .next t) ∧ (∃ t, exec (.setDisplayStart 1022 0) busy = .next t) ∧
    (∃ t, exec (.setHorizontalRange 0 0xFFF) busy = .next t) ∧
    (∃ t, exec (.setVerticalRange 1023 0) busy = .next t) ∧ (∃ t, exec (.setMode 0) busy = .next t) ∧
    (∃ t, exec .refreshSmoothingAdjustment busy = .next t) ∧ (∃ t, exec (.writeEnabled false) busy = .next t) :=
  ⟨⟨_, rfl⟩, ⟨_, rfl⟩, ⟨_, rfl⟩, ⟨_, rfl⟩, ⟨_, rfl⟩, ⟨_, rfl⟩, ⟨_, rfl⟩⟩

theorem witness_EncodeThenDecodeGivesTheOperation :
    [.reset, .setDisplayStart 1022 511, .setHorizontalRange 0xFFF 0xFFF, .setVerticalRange 0x3FF 0x3FF,
        .setMode 0xFF, .refreshSmoothingAdjustment, .writeEnabled true, .reserved7].all Instr.wellFormed = true := by
  decide

theorem witness_DecodeKeepsExactlyTheFieldBits :
    [0x0FFFFFFFF, 0x1FFFFFFFF, 0x2FFFFFFFF, 0x3FFFFFFFF, 0x4FFFFFFFF, 0x5FFFFFFFF, 0x6FFFFFFFF,
        0x7FFFFFFFF].map selectOf = [0, 1, 2, 3, 4, 5, 6, 7] := by decide

/-- For each select, a pair of different words that agree on the select and on the field bits. -/
theorem witness_IgnoredBitsHaveNoEffect :
    selectOf 0x1FFFFFFFF = selectOf 0x10007FFFE ∧
      commandOf 0x1FFFFFFFF &&& 0x0007FFFE#32 = commandOf 0x10007FFFE &&& 0x0007FFFE#32 ∧
    selectOf 0x2FFFFFFFF = selectOf 0x200FFFFFF ∧
      commandOf 0x2FFFFFFFF &&& 0x00FFFFFF#32 = commandOf 0x200FFFFFF &&& 0x00FFFFFF#32 ∧
    selectOf 0x3FFFFFFFF = selectOf 0x3000FFFFF ∧
      commandOf 0x3FFFFFFFF &&& 0x000FFFFF#32 = commandOf 0x3000FFFFF &&& 0x000FFFFF#32 ∧
    selectOf 0x4FFFFFFFF = selectOf 0x4000000FF ∧
      commandOf 0x4FFFFFFFF &&& 0x000000FF#32 = commandOf 0x4000000FF &&& 0x000000FF#32 ∧
    selectOf 0x6FFFFFFFF = selectOf 0x600000001 ∧
      commandOf 0x6FFFFFFFF &&& 0x00000001#32 = commandOf 0x600000001 &&& 0x00000001#32 ∧
    selectOf 0x0FFFFFFFF = selectOf 0x000000000 ∧ selectOf 0x5FFFFFFFF = selectOf 0x500000000 ∧
    selectOf 0x7FFFFFFFF = selectOf 0x700000000 := by decide

theorem witness_PseudoFormsExpand : (0#10)[0] = false ∧ (1022#10)[0] = false := by decide

theorem witness_StepRunsTheDecodedTransaction :
    { busy with script := [.transact 0x400000029] }.script = .transact 0x400000029 :: [] ∧
    decodeTableWord 40 0x7FFFFFFFF = some .reserved7 ∧ 0x7FFFFFFFF < 2 ^ 40 ∧
    decodeTableWord 40 0x000000000 = some .reset := by decide

theorem witness_HostActionsChangeOnlyTheirInput :
    { busy with script := [.setSmooth true] }.script = .setSmooth true :: [] ∧
    { busy with script := [.setAutoStd false] }.script = .setAutoStd false :: [] ∧
    { busy with script := [.setVideoStd .ntsc] }.script = .setVideoStd .ntsc :: [] ∧ busy.script = [] := by decide

theorem witness_ReadPortsShowTheFields :
    { busy with script := [.read .startNY] }.script = .read .startNY :: [] ∧
    { busy with script := [.read .startNY] }.live = true ∧
    { State.powerOn with script := [.read .enabled] }.script = .read .enabled :: [] ∧
    { State.powerOn with script := [.read .enabled] }.live = false := by decide

theorem witness_EveryCommandWordIsLegal : busy.live = true ∧ (0 : Select) ≠ 7 ∧ (6 : Select) ≠ 7 := by decide

/-- Before the first `Reset`: neither mark, or (no run gives it) one of them. -/
theorem witness_OnlyResetRunsBeforeTheFirstReset :
    State.powerOn.live = false ∧ { busy with startValid := false }.live = false := by decide

/-- The closed gate by an even and by an odd operand; the gate opened by each component alone; a start that holds
no value. -/
theorem witness_SetDisplayStartStoresAndNormalizes :
    busy.live = true ∧
    ((320#10 &&& 0x3FE#10) = busy.ds.start.x ∧ 256#9 = busy.ds.start.y) ∧
    ((321#10 &&& 0x3FE#10) = busy.ds.start.x ∧ 256#9 = busy.ds.start.y) ∧
    ¬((1023#10 &&& 0x3FE#10) = busy.ds.start.x ∧ 256#9 = busy.ds.start.y) ∧
    ¬((320#10 &&& 0x3FE#10) = busy.ds.start.x ∧ 511#9 = busy.ds.start.y) ∧
    State.powerOn.startValid = false := by decide

theorem witness_SetHorizontalRangeStoresAndDerives :
    busy.live = true ∧
    (0x260#12 = busy.ds.rangeX1 ∧ 0xC60#12 = busy.ds.rangeX2) ∧
    ¬(0x000#12 = busy.ds.rangeX1 ∧ 0xC60#12 = busy.ds.rangeX2) ∧
    ¬(0x260#12 = busy.ds.rangeX1 ∧ 0xFFF#12 = busy.ds.rangeX2) := by decide

theorem witness_SetVerticalRangeStoresAndDerives :
    busy.live = true ∧
    (35#10 = busy.ds.rangeY1 ∧ 291#10 = busy.ds.rangeY2) ∧
    ¬(0#10 = busy.ds.rangeY1 ∧ 291#10 = busy.ds.rangeY2) ∧
    ¬(35#10 = busy.ds.rangeY1 ∧ 1023#10 = busy.ds.rangeY2) := by decide

theorem witness_SetModeStoresPropagatesAndDerives :
    busy.live = true ∧ 0x29#8 = busy.ds.drawMode ∧ 0xFF#8 ≠ busy.ds.drawMode ∧ 0x00#8 ≠ busy.ds.drawMode ∧
    State.powerOn.drawModeValid = false := by decide

theorem witness_WriteEnabledWritesOnlyEnabled : busy.live = true ∧ largest.live = true := by decide

/-- For the setter clause, each setter; for the first, any operation of `witness_every_operation_completes`. -/
theorem witness_OperationsAreIdempotent :
    ∃ t, exec (.setMode 0xFF) busy = .next t ∧ (∃ m, Instr.setMode 0xFF = .setMode m) := ⟨_, rfl, _, rfl⟩

/-- Both standards. -/
theorem witness_StandardSelectsTheConstants :
    Inv busy ∧ busy.live = true ∧ busy.ds.drawMode[3] = true ∧
    Inv (ready true true) ∧ (ready true true).live = true ∧ (ready true true).ds.drawMode[3] = false := by decide

theorem witness_HorizontalEndsClampThenRound :
    0 < 10 ∧ 0 < 4 ∧ 0 ≤ 3413 ∧ 3413 ≤ 3413 := by decide

/-- An inverted range and its neighbours at the meeting point, then an ordered one above the clamp. -/
theorem witness_HeightIsTheClampedDifference :
    min (shape 0 0 0 256 255).rangeY2.toNat 263 < min (shape 0 0 0 256 255).rangeY1.toNat 263 ∧
    min (shape 0 0 0 256 256).rangeY1.toNat 263 ≤ min (shape 0 0 0 256 256).rangeY2.toNat 263 ∧
    min (shape 0 0 0 1023 300).rangeY1.toNat 263 ≤ min (shape 0 0 0 1023 300).rangeY2.toNat 263 := by decide

theorem witness_NegHeightReadingsDifferOnlyWhenInverted :
    clampedY 16 263 ≤ clampedY 16 263 ∧ clampedY 16 263 < clampedY 17 263 ∧
    clampedY 400 263 ≤ clampedY 300 263 := by decide

/-- Each divider's widest case (both standards where they differ), the interlaced and the tallest height. -/
theorem witness_SizeBoundsAreReached :
    [0x00, 0x01, 0x09, 0x40, 0x02, 0x0A, 0x03].map (fun m => divider (shape m 0 0xFFF 0 0x3FF).drawMode) =
      [10, 8, 8, 7, 5, 5, 4] ∧
    (shape 0x09 0 0xFFF 0 0x3FF).rangeX1 = 0#12 ∧ 3406 ≤ (shape 0x09 0 0xFFF 0 0x3FF).rangeX2.toNat ∧
    (shape 0x00 0 3413 0 263).rangeX1 = 0#12 ∧ 3413 ≤ (shape 0x00 0 3413 0 263).rangeX2.toNat ∧
    (shape 0x28 0 0 0 314).isInterlaced = true ∧ (shape 0x28 0 0 0 314).rangeY1 = 0#10 ∧
    314 ≤ (shape 0x28 0 0 0 314).rangeY2.toNat ∧
    (shape 0x00 0 0 0 263).rangeY1 = 0#10 ∧ 263 ≤ (shape 0x00 0 0 0 263).rangeY2.toNat ∧
    Inv largest ∧ largest.live = true := by decide

theorem witness_NormalizedValuesAreExact :
    (-1023 : Int) ≤ -1023 ∧ (-1023 : Int) ≤ 1023 ∧ (1023 : Int) ≤ 1023 ∧ (512 = 512 ∨ 512 = 1024) ∧
    (1024 = 512 ∨ 1024 = 1024) ∧ f32 (-1023) 512 = f32 (-1023) 512 := by decide

theorem witness_NormalizeStartDividesByTheCanvas :
    StartEven largest.ds ∧ largest.ds.start.y = 511#9 := by decide

theorem witness_NormalizedRangesHold : Inv largest ∧ largest.live = true ∧ Inv busy ∧ busy.live = true := by decide

theorem witness_RefreshRecomputesBothPairs : busy.live = true ∧ State.powerOn.live = false := by decide

theorem witness_RefreshEqualsFullRecomputation : busy.live = true ∧ SizeDerived busy.ds := by decide

/-- Clause 3 at the end of the line and beyond it; clause 4 with smoothing off and on. -/
theorem witness_DocumentLawsHold :
    (standard false).cyclesPerScanline ≤ (shape 0x00 0 3413 0 0).rangeX2.toNat ∧
    (standard (shape 0x08 0 4095 0 0).isPal).cyclesPerScanline ≤ (shape 0x08 0 4095 0 0).rangeX2.toNat ∧
    busy.live = true ∧ Consistent busy ∧ largest.live = true ∧ Consistent largest := by decide

/-- Each gate open and closed, each with and without the store's write. -/
theorem witness_ResetRunsItsSteps :
    busy.live = true ∧ busy.ds.drawMode ≠ 0#8 ∧ busy.ds.start ≠ ⟨0#10, 0#9⟩ ∧ busy.cfg.autoStd = true ∧
    (ready true true).live = true ∧ (ready true true).ds.drawMode = 0#8 ∧
    (ready true true).ds.start = ⟨0#10, 0#9⟩ ∧
    ¬((ready true true).ds.drawMode ≠ 0#8 ∧ (ready true true).cfg.autoStd = true) ∧
    ¬(largest.ds.drawMode ≠ 0#8 ∧ largest.cfg.autoStd = true) := by decide

theorem witness_FirstResetGivesTheTable :
    State.powerOn.drawModeValid = false ∧ State.powerOn.startValid = false ∧
    { busy with drawModeValid := false, startValid := false }.drawModeValid = false ∧
    { busy with drawModeValid := false, startValid := false }.startValid = false := by decide

theorem witness_LaterResetGivesTheTable :
    busy.live = true ∧ FlagsAgree busy.ds ∧ (ready true true).live = true ∧ FlagsAgree (ready true true).ds := by decide

theorem witness_ColdGatesClosedDifferInTwoWays :
    State.powerOn.ds = DisplayState.powerUp ∧ State.powerOn.drawModeValid = false ∧
    State.powerOn.startValid = false := by decide

theorem witness_FieldsHaveOnlyTheirWriters : ∃ t, exec (.setVerticalRange 0 1023) busy = .next t := ⟨_, rfl⟩

/-- An operation that writes nothing to the store, and the two that do. -/
theorem witness_StoreWritesNeedAModeChange :
    (∃ t, exec (.setMode 0x29) busy = .next t) ∧ (∃ t, exec (.setMode 0x00) busy = .next t) ∧
    ∃ t, exec .reset busy = .next t := ⟨⟨_, rfl⟩, ⟨_, rfl⟩, ⟨_, rfl⟩⟩

/-- The masks leave out bits 2, 4 and 7 only. -/
theorem witness_InertBitsCannotChangeTheRectangle :
    ((0xBD#8 &&& 0x43#8) = (busy.ds.drawMode &&& 0x43#8) ∧ 0xBD#8 ≠ busy.ds.drawMode) ∧
    busy.live = true ∧ FlagsAgree busy.ds ∧ SizeDerived busy.ds ∧
    (0xBD#8 &&& 0x6B#8) = (busy.ds.drawMode &&& 0x6B#8) := by decide

theorem witness_GeometryIgnoresTheStoresStandard :
    (∃ t, exec (.setMode 0x00) busy = .next t) ∧ true = busy.cfg.autoStd := ⟨⟨_, rfl⟩, rfl⟩

theorem witness_SmoothingReachesOnlyTheNormalizedPairs :
    ∃ t, exec (.setDisplayStart 0 511) largest = .next t := ⟨_, rfl⟩

theorem witness_ToggleLeavesPairsStaleUntilRefreshed :
    { busy with script := [.setSmooth true] }.live = true ∧
    { busy with script := [.setSmooth true] }.script = .setSmooth true :: [] ∧
    ¬((321#10 &&& 0x3FE#10) = busy.ds.start.x ∧ 255#9 = busy.ds.start.y) ∧
    ¬(0x260#12 = busy.ds.rangeX1 ∧ 0xFFF#12 = busy.ds.rangeX2) ∧
    ¬(0#10 = busy.ds.rangeY1 ∧ 291#10 = busy.ds.rangeY2) ∧ 0x2B#8 ≠ busy.ds.drawMode ∧
    busy.ds.start ≠ ⟨0#10, 0#9⟩ ∧ (ready false true).ds.start = ⟨0#10, 0#9⟩ ∧
    (ready false true).live = true := by decide

theorem witness_ModeWriteAndToggleCommute : busy.live = true ∧ State.reset.live = true := by decide

theorem witness_EveryStepKeepsTheInvariant :
    Inv (busy.issue 4 0x00) ∧ (∃ t, step (busy.issue 4 0x00) = .next t) ∧
    Inv (State.powerOn.issue 0 0) ∧ ∃ t, step (State.powerOn.issue 0 0) = .next t :=
  ⟨by decide, ⟨_, rfl⟩, by decide, ⟨_, rfl⟩⟩

theorem witness_EveryStepKeepsThePairsConsistent :
    Inv (largest.issue 1 0) ∧ Consistent (largest.issue 1 0) ∧ KeepsSmooth (largest.issue 1 0) ∧
    ∃ t, step (largest.issue 1 0) = .next t :=
  ⟨by decide, by decide, by intro b rest h; simp [State.issue] at h, ⟨_, rfl⟩⟩

end Sys2Proof.Tests
end

section
/-!
PROOF. O42 (10_state.md R13): `is24Bit` and mode bits 2, 4 and 7 are stored and cannot change the rectangle.
The Geometry Deriver reads the mode register through the selector's three bits only, and every operation commutes
with an overwrite of `is24Bit`.
-/

namespace Sys2Proof.Machine

/-! ### The mode bits the Geometry Deriver reads -/

/-- The selector reads mode bits 6, 1 and 0 (R59). -/
theorem selector_and_mask (m : BitVec 8) : selector (m &&& 0x43#8) = selector m := by
  revert m; decide

/-- So the divider depends on these three bits only. -/
theorem divider_eq_of_mask_eq {m n : BitVec 8} (h : m &&& 0x43#8 = n &&& 0x43#8) : divider m = divider n := by
  have hsel : selector m = selector n := by rw [← selector_and_mask m, h, selector_and_mask]
  simp only [divider, hsel]

/-- Steps 1 to 6 read the mode register through the divider only (compare `derivedSize_congr`). -/
theorem derivedSize_congr_divider {d e : DisplayState} (hm : divider e.drawMode = divider d.drawMode)
    (hp : e.isPal = d.isPal) (hi : e.isInterlaced = d.isInterlaced)
    (hx1 : e.rangeX1 = d.rangeX1) (hx2 : e.rangeX2 = d.rangeX2)
    (hy1 : e.rangeY1 = d.rangeY1) (hy2 : e.rangeY2 = d.rangeY2) : derivedSize e = derivedSize d := by
  simp only [derivedSize, derivedWidth, derivedHeight, hm, hp, hi, hx1, hx2, hy1, hy2]

/-- The bits outside 2, 4 and 7 fix the selector's bits and the two flags the Deriver reads. -/
theorem inert_mask_eq {m n : BitVec 8} (h : m &&& 0x6B#8 = n &&& 0x6B#8) :
    m &&& 0x43#8 = n &&& 0x43#8 ∧ modeStd m = modeStd n ∧ modeIl m = modeIl n := by
  have bit (k : Nat) (hk : (0x6B#8).getLsbD k = true) : m.getLsbD k = n.getLsbD k := by
    simpa [hk] using congrArg (BitVec.getLsbD · k) h
  have narrow (x : BitVec 8) : x &&& 0x6B#8 &&& 0x43#8 = x &&& 0x43#8 := by
    rw [BitVec.and_assoc]; rfl
  exact ⟨by rw [← narrow m, h, narrow], bit 3 rfl, bit 5 rfl⟩

/-- A mode that differs from the stored one in bits 2, 4 and 7 only derives the same size. -/
theorem derivedSize_writeMode_of_inert {d : DisplayState} {m : BitVec 8} (hf : FlagsAgree d)
    (h : m &&& 0x6B#8 = d.drawMode &&& 0x6B#8) : derivedSize (d.writeMode m) = derivedSize d := by
  obtain ⟨hsel, hstd, hil⟩ := inert_mask_eq h
  obtain ⟨hp, -, hi⟩ := hf
  exact derivedSize_congr_divider (divider_eq_of_mask_eq hsel) (hstd.trans hp.symm) (hil.trans hi.symm)
    rfl rfl rfl rfl

/-! ### `SetMode` on a live state -/

/-- On a live state the mode gate compares the mode register. -/
theorem modeGate_of_live (fires : Bool) (m : BitVec 8) {s : State} (h : s.live = true) :
    modeGate fires m s = (m != s.ds.drawMode) := by
  rw [modeGate, (marks_of_live h).1, coldGate_of_valid]

/-- With the flags consistent, `SetMode` stores the byte and its 24-bit flag whether or not the gate opens. -/
theorem setMode_stores_mode (fires : Bool) (m : BitVec 8) {s : State} (hl : s.live = true) (hf : FlagsAgree s.ds) :
    (s.setMode fires m).ds.drawMode = m ∧ (s.setMode fires m).ds.is24Bit = m[4] := by
  obtain ⟨-, h24, -⟩ := hf
  obtain ⟨hg, h⟩ | ⟨-, h⟩ := setMode_cases fires m s <;> rw [h]
  · have hm : m = s.ds.drawMode := by simpa [modeGate_of_live fires m hl] using hg
    exact ⟨hm.symm, hm ▸ h24⟩
  · simp [modeC24]

/-- A `SetMode` that changes inert bits only derives the stored size again. -/
theorem setMode_size_of_inert (fires : Bool) {m : BitVec 8} {s : State} (hf : FlagsAgree s.ds)
    (hd : SizeDerived s.ds) (h : m &&& 0x6B#8 = s.ds.drawMode &&& 0x6B#8) :
    (s.setMode fires m).ds.size = s.ds.size := by
  obtain ⟨-, e⟩ | ⟨-, e⟩ := setMode_cases fires m s <;> rw [e]
  simpa using (derivedSize_writeMode_of_inert hf h).trans hd.symm

/-! ### Every operation commutes with an overwrite of `is24Bit` -/

/-- The state with another value in `is24Bit`. -/
def State.withIs24Bit (b : Bool) (s : State) : State := { s with ds := { s.ds with is24Bit := b } }

theorem withIs24Bit_self (s : State) : s.withIs24Bit s.ds.is24Bit = s := rfl

theorem setDisplayStart_withIs24Bit (fires : Bool) (x : BitVec 10) (y : BitVec 9) (b : Bool) (s : State) :
    (s.withIs24Bit b).setDisplayStart fires x y = (s.setDisplayStart fires x y).withIs24Bit b := by
  have hg : startGate fires (maskStartX x) y (s.withIs24Bit b) = startGate fires (maskStartX x) y s := rfl
  simp only [State.setDisplayStart, hg]
  split <;> rfl

theorem setHorizontalRange_withIs24Bit (x1 x2 : BitVec 12) (b : Bool) (s : State) :
    (s.withIs24Bit b).setHorizontalRange x1 x2 = (s.setHorizontalRange x1 x2).withIs24Bit b := by
  have hg : horizontalGate x1 x2 (s.withIs24Bit b) = horizontalGate x1 x2 s := rfl
  simp only [State.setHorizontalRange, hg]
  split <;> rfl

theorem setVerticalRange_withIs24Bit (y1 y2 : BitVec 10) (b : Bool) (s : State) :
    (s.withIs24Bit b).setVerticalRange y1 y2 = (s.setVerticalRange y1 y2).withIs24Bit b := by
  have hg : verticalGate y1 y2 (s.withIs24Bit b) = verticalGate y1 y2 s := rfl
  simp only [State.setVerticalRange, hg]
  split <;> rfl

/-- An open mode gate overwrites the flag, a closed one leaves it. -/
theorem setMode_withIs24Bit (fires : Bool) (m : BitVec 8) (b : Bool) (s : State) :
    ∃ c, (s.withIs24Bit b).setMode fires m = (s.setMode fires m).withIs24Bit c := by
  have hg : modeGate fires m (s.withIs24Bit b) = modeGate fires m s := rfl
  simp only [State.setMode, hg]
  split
  · exact ⟨_, (withIs24Bit_self _).symm⟩
  · exact ⟨b, rfl⟩

/-- `Reset` is a composition of procedures that each commute. -/
theorem resetEngine_withIs24Bit (fires : Bool) (b : Bool) (s : State) :
    ∃ c, (s.withIs24Bit b).resetEngine fires = (s.resetEngine fires).withIs24Bit c := by
  obtain ⟨c, hc⟩ := setMode_withIs24Bit fires 0#8 b { s with ds := s.ds.writeResetRanges }
  have hstart := setDisplayStart_withIs24Bit fires 0#10 0#9 c
    (State.setMode fires 0#8 { s with ds := s.ds.writeResetRanges })
  rw [← hc] at hstart
  exact ⟨c, congrArg (fun u => { u.updateDisplayArea with drawModeValid := true, startValid := true }) hstart⟩

/-- The guard of the first `Reset` does not see the flag, so a guarded operation commutes as its procedure does. -/
theorem whenLive_withIs24Bit {op : State → State} {b : Bool} {s t : State}
    (h : whenLive op s = .next t) (hop : ∃ c, op (s.withIs24Bit b) = (op s).withIs24Bit c) :
    ∃ c, whenLive op (s.withIs24Bit b) = .next (t.withIs24Bit c) := by
  obtain ⟨hl, rfl⟩ := (whenLive_next_iff op s t).mp h
  obtain ⟨c, hc⟩ := hop
  have hl' : (s.withIs24Bit b).live = true := hl
  exact ⟨c, by rw [whenLive_of_live hl', hc]⟩

/-- R13 for one operation: `is24Bit` reaches nothing but `is24Bit`. -/
theorem exec_withIs24Bit {i : Instr} {s t : State} (b : Bool) (h : exec i s = .next t) :
    ∃ c, exec i (s.withIs24Bit b) = .next (t.withIs24Bit c) := by
  cases i with
  | reset =>
    cases h
    obtain ⟨c, hc⟩ := resetEngine_withIs24Bit config.coldGatesFire b s
    exact ⟨c, congrArg Host.Outcome.next hc⟩
  | setDisplayStart x y => exact whenLive_withIs24Bit h ⟨b, setDisplayStart_withIs24Bit _ x y b s⟩
  | setHorizontalRange x1 x2 => exact whenLive_withIs24Bit h ⟨b, setHorizontalRange_withIs24Bit x1 x2 b s⟩
  | setVerticalRange y1 y2 => exact whenLive_withIs24Bit h ⟨b, setVerticalRange_withIs24Bit y1 y2 b s⟩
  | setMode m => exact whenLive_withIs24Bit h (setMode_withIs24Bit _ m b s)
  | refreshSmoothingAdjustment =>
    exact whenLive_withIs24Bit (op := fun s => s.normalizeStart.normalizeSize) h ⟨b, rfl⟩
  | writeEnabled e =>
    exact whenLive_withIs24Bit (op := fun s => { s with ds := { s.ds with enabled := e } }) h ⟨b, rfl⟩
  | reserved7 => cases h

/-- Settles O42: the Deriver reads the mode through `divider`, operations commute with an overwrite of `is24Bit`
(`exec_withIs24Bit`), and a `SetMode` of inert bits derives the stored size again. -/
theorem inertBitsCannotChangeTheRectangle : Obligations.InertBitsCannotChangeTheRectangle := by
  refine ⟨fun d e hm => derivedSize_congr_divider (divider_eq_of_mask_eq hm), fun i s t b h => ?_,
    fun s m hl hf hd => ?_⟩
  · obtain ⟨c, hc⟩ := exec_withIs24Bit b h
    exact ⟨_, hc, rfl, rfl, rfl, rfl⟩
  · obtain ⟨hmode, h24⟩ := setMode_stores_mode true m hl hf
    exact ⟨s.setMode true m, whenLive_of_live hl, hmode, h24,
      fun hm => ⟨setMode_size_of_inert true hf hd hm, (setMode_start true m s).1⟩⟩

end Sys2Proof.Machine
end

section
/-!
PROOF. O4 and O11 (30_encoding.md R38 to R41, R56): each operand field is a shift and a mask of the command word, so
a decoder total over the select reads the field bits only, and every operation it gives runs on a live state.
-/

namespace Sys2Proof

/-! ### The operand fields as shifts and masks of the command's number -/

/-- `n` bits from bit `a` of a word are the document's "shift down by `a`, mask with `n` ones". -/
theorem extractLsb'_eq_ofNat_shift_mask {k : Nat} (c : BitVec k) (a n : Nat) :
    c.extractLsb' a n = BitVec.ofNat n ((c.toNat >>> a) &&& (2 ^ n - 1)) := by
  apply BitVec.eq_of_toNat_eq
  rw [BitVec.extractLsb'_toNat, BitVec.toNat_ofNat, Nat.and_two_pow_sub_one_eq_mod, Nat.mod_mod]

theorem startXField_eq (w : Command) : startXField w = BitVec.ofNat 10 (w.toNat &&& 0x3FE) := by
  rw [BitVec.ofNat_and]; rfl

theorem startYField_eq (w : Command) : startYField w = BitVec.ofNat 9 ((w.toNat >>> 10) &&& 0x1FF) :=
  extractLsb'_eq_ofNat_shift_mask w 10 9

theorem newX1Field_eq (w : Command) : newX1Field w = BitVec.ofNat 12 (w.toNat &&& 0xFFF) :=
  extractLsb'_eq_ofNat_shift_mask w 0 12

theorem newX2Field_eq (w : Command) : newX2Field w = BitVec.ofNat 12 ((w.toNat >>> 12) &&& 0xFFF) :=
  extractLsb'_eq_ofNat_shift_mask w 12 12

theorem newY1Field_eq (w : Command) : newY1Field w = BitVec.ofNat 10 (w.toNat &&& 0x3FF) :=
  extractLsb'_eq_ofNat_shift_mask w 0 10

theorem newY2Field_eq (w : Command) : newY2Field w = BitVec.ofNat 10 ((w.toNat >>> 10) &&& 0x3FF) :=
  extractLsb'_eq_ofNat_shift_mask w 10 10

/-- Settles O4: the decoder select by select, then each field in the document's form. -/
theorem operandFieldsAreTheShiftsAndMasks : Obligations.OperandFieldsAreTheShiftsAndMasks := by
  intro w
  refine ⟨?_, ?_, ?_⟩
  · rw [decode_select1, startXField_eq, startYField_eq]
  · rw [decode_select2, newX1Field_eq, newX2Field_eq]
  · rw [decode_select3, newY1Field_eq, newY2Field_eq]

/-! ### The bits the decoder reads -/

/-- The command bits the operation of a select takes as operands: the letters of the patterns of 30_encoding.md
section 6. -/
def fieldMask (op : Select) : Command :=
  match op.toNat with
  | 1 => 0x0007FFFE#32 | 2 => 0x00FFFFFF#32 | 3 => 0x000FFFFF#32 | 4 => 0x000000FF#32
  | 6 => 0x00000001#32 | _ => 0#32

/-- A mask with ones over a run of bits leaves the run as it is. -/
theorem extractLsb'_and_of_ones {k : Nat} (c mask : BitVec k) {a n : Nat}
    (h : mask.extractLsb' a n = BitVec.allOnes n) : (c &&& mask).extractLsb' a n = c.extractLsb' a n := by
  rw [BitVec.extractLsb'_and, h, BitVec.and_allOnes]

/-- The mask has a 0 at bit 0, which `startX` drops too (R39). -/
theorem startXField_and_fieldMask (w : Command) : startXField (w &&& fieldMask 1) = startXField w := by
  have hmask : (fieldMask 1).extractLsb' 0 10 = 0x3FE#10 := by decide
  rw [startXField, BitVec.extractLsb'_and, hmask, BitVec.and_assoc, BitVec.and_self, startXField]

theorem startYField_and_fieldMask (w : Command) : startYField (w &&& fieldMask 1) = startYField w :=
  extractLsb'_and_of_ones w _ (by decide)

theorem newX1Field_and_fieldMask (w : Command) : newX1Field (w &&& fieldMask 2) = newX1Field w :=
  extractLsb'_and_of_ones w _ (by decide)

theorem newX2Field_and_fieldMask (w : Command) : newX2Field (w &&& fieldMask 2) = newX2Field w :=
  extractLsb'_and_of_ones w _ (by decide)

theorem newY1Field_and_fieldMask (w : Command) : newY1Field (w &&& fieldMask 3) = newY1Field w :=
  extractLsb'_and_of_ones w _ (by decide)

theorem newY2Field_and_fieldMask (w : Command) : newY2Field (w &&& fieldMask 3) = newY2Field w :=
  extractLsb'_and_of_ones w _ (by decide)

theorem newModeField_and_fieldMask (w : Command) : newModeField (w &&& fieldMask 4) = newModeField w :=
  extractLsb'_and_of_ones w _ (by decide)

theorem enabledField_and_fieldMask (w : Command) : enabledField (w &&& fieldMask 6) = enabledField w := by
  have hmask : (fieldMask 6)[0] = true := by decide
  rw [enabledField, BitVec.getElem_and, hmask, Bool.and_true, enabledField]

/-- The eight codes of the select (R37). -/
theorem select_cases (op : Select) :
    op = 0 ∨ op = 1 ∨ op = 2 ∨ op = 3 ∨ op = 4 ∨ op = 5 ∨ op = 6 ∨ op = 7 := by
  revert op; decide

/-- Masking the ignored bits away does not change the operation (R45). -/
theorem decode_and_fieldMask (op : Select) (w : Command) :
    decode (transaction op (w &&& fieldMask op)) = decode (transaction op w) := by
  obtain rfl | rfl | rfl | rfl | rfl | rfl | rfl | rfl := select_cases op
  · rw [decode_select0, decode_select0]
  · rw [decode_select1, decode_select1, startXField_and_fieldMask, startYField_and_fieldMask]
  · rw [decode_select2, decode_select2, newX1Field_and_fieldMask, newX2Field_and_fieldMask]
  · rw [decode_select3, decode_select3, newY1Field_and_fieldMask, newY2Field_and_fieldMask]
  · rw [decode_select4, decode_select4, newModeField_and_fieldMask]
  · rw [decode_select5, decode_select5]
  · rw [decode_select6, decode_select6, enabledField_and_fieldMask]
  · rw [decode_select7, decode_select7]

/-- The row a transaction decodes to has the transaction's own select code (R37). -/
theorem selectCode_decode (op : Select) (w : Command) : selectCode (decode (transaction op w)) = op := by
  obtain rfl | rfl | rfl | rfl | rfl | rfl | rfl | rfl := select_cases op
  · rw [decode_select0]; rfl
  · rw [decode_select1]; rfl
  · rw [decode_select2]; rfl
  · rw [decode_select3]; rfl
  · rw [decode_select4]; rfl
  · rw [decode_select5]; rfl
  · rw [decode_select6]; rfl
  · rw [decode_select7]; rfl

/-- Only select 7 names the reserved row (R38, R46). -/
theorem decode_ne_reserved7 {op : Select} (h : op ≠ 7) (w : Command) : decode (transaction op w) ≠ .reserved7 := by
  intro he
  have hcode := selectCode_decode op w
  rw [he] at hcode
  exact h hcode.symm

end Sys2Proof

namespace Sys2Proof.Machine

/-- Issuing a transaction and stepping runs the decoded operation on the state itself. -/
theorem step_issue (op : Select) (w : Command) (s : State) :
    step (s.issue op w) = exec (decode (transaction op w)) s := rfl

/-- R56: on a live state no operation but the reserved row can fail. -/
theorem exec_completes_of_live {i : Instr} {s : State} (hl : s.live = true) (hi : i ≠ .reserved7) :
    ∃ t, exec i s = .next t := by
  cases i with
  | reset => exact ⟨_, rfl⟩
  | setDisplayStart => exact ⟨_, whenLive_of_live hl⟩
  | setHorizontalRange => exact ⟨_, whenLive_of_live hl⟩
  | setVerticalRange => exact ⟨_, whenLive_of_live hl⟩
  | setMode => exact ⟨_, whenLive_of_live hl⟩
  | refreshSmoothingAdjustment => exact ⟨_, whenLive_of_live (op := fun s => s.normalizeStart.normalizeSize) hl⟩
  | writeEnabled e => exact ⟨_, whenLive_of_live (op := fun s => { s with ds := { s.ds with enabled := e } }) hl⟩
  | reserved7 => exact absurd rfl hi

/-- Settles O11: select 7 alone is reserved, the decoder reads the field bits only, and every other operation completes
on a live state. -/
theorem everyCommandWordIsLegal : Obligations.EveryCommandWordIsLegal := by
  intro s op w hl hop
  have hlegal := decode_ne_reserved7 hop w
  refine ⟨hlegal, (decode_and_fieldMask op w).symm, ?_⟩
  rw [step_issue]
  exact exec_completes_of_live hl hlegal

end Sys2Proof.Machine
end

section
/-!
PROOF. O14 to O17 (40_register_decoder.md R50 to R54): each setter answers its procedure on a live state; with the gate
closed the procedure is the identity, with it open a closed form over the whole state, so that what is not stored is
unchanged; and the two gates over a register with a power-on mark open while the mark is clear (R89).
-/

namespace Sys2Proof.Machine

/-! ### Each setter answers its procedure on a live state -/

theorem exec_setDisplayStart_of_live {s : State} (hl : s.live = true) (x : BitVec 10) (y : BitVec 9) :
    exec (.setDisplayStart x y) s = .next (s.setDisplayStart config.coldGatesFire x y) := whenLive_of_live hl

theorem exec_setHorizontalRange_of_live {s : State} (hl : s.live = true) (x1 x2 : BitVec 12) :
    exec (.setHorizontalRange x1 x2) s = .next (s.setHorizontalRange x1 x2) := whenLive_of_live hl

theorem exec_setVerticalRange_of_live {s : State} (hl : s.live = true) (y1 y2 : BitVec 10) :
    exec (.setVerticalRange y1 y2) s = .next (s.setVerticalRange y1 y2) := whenLive_of_live hl

theorem exec_setMode_of_live {s : State} (hl : s.live = true) (m : BitVec 8) :
    exec (.setMode m) s = .next (s.setMode config.coldGatesFire m) := whenLive_of_live hl

/-! ### `SetDisplayStart` -/

/-- `NormStart` with the document's literals: 1 under smoothing, a canvas of 1024 by 512 (R67, R68). -/
theorem normStart_eq (p : Start) (smooth : Bool) :
    normStart p smooth =
      ⟨f32 (p.x.toNat + (if smooth then 1 else 0)) 1024, f32 (p.y.toNat + (if smooth then 1 else 0)) 512⟩ := rfl

/-- Once the start holds a value, its gate is closed exactly by the stored pair (R50). -/
theorem startGate_eq_false_iff {s : State} (hv : s.startValid = true) (fires : Bool) (x : BitVec 10) (y : BitVec 9) :
    startGate fires x y s = false ↔ x = s.ds.start.x ∧ y = s.ds.start.y := by
  simp [startGate, hv, coldGate_of_valid]

/-- Every operand opens the gate of a start that holds no value, as `COLD_GATES_FIRE` stands (R89, log entry 8). -/
theorem startGate_of_not_valid {s : State} (hv : s.startValid = false) (x : BitVec 10) (y : BitVec 9) :
    startGate config.coldGatesFire x y s = true := by
  rw [startGate, hv, config_coldGatesFire, coldGate_fires]

theorem setDisplayStart_of_closed {fires : Bool} {x : BitVec 10} {y : BitVec 9} {s : State}
    (hg : startGate fires (maskStartX x) y s = false) : s.setDisplayStart fires x y = s := by
  simp [State.setDisplayStart, hg]

theorem setDisplayStart_of_open {fires : Bool} {x : BitVec 10} {y : BitVec 9} {s : State}
    (hg : startGate fires (maskStartX x) y s = true) :
    s.setDisplayStart fires x y =
      { s with
        ds := { s.ds with start := ⟨maskStartX x, y⟩, startN := normStart ⟨maskStartX x, y⟩ s.cfg.smooth }
        startValid := true } :=
  if_pos hg

/-- Whether or not the gate opens, the start then is the masked operand. -/
theorem setDisplayStart_start {s : State} (hv : s.startValid = true) (fires : Bool) (x : BitVec 10) (y : BitVec 9) :
    (s.setDisplayStart fires x y).ds.start = ⟨maskStartX x, y⟩ := by
  obtain ⟨hg, h⟩ | ⟨-, h⟩ := setDisplayStart_cases fires x y s <;> rw [h]
  obtain ⟨hx, hy⟩ := (startGate_eq_false_iff hv fires _ y).mp hg
  rw [hx, hy]

/-- The decoded field has bit 0 masked already (R39). -/
theorem maskStartX_startXField (w : Command) : maskStartX (startXField w) = startXField w := by
  rw [maskStartX, startXField, BitVec.and_assoc, BitVec.and_self]

theorem startXField_toNat (w : Command) : (startXField w).toNat = w.toNat &&& 0x3FE := by
  rw [startXField_eq, BitVec.toNat_ofNat, Nat.mod_eq_of_lt (Nat.and_lt_two_pow _ (by decide))]

theorem startYField_toNat (w : Command) : (startYField w).toNat = (w.toNat >>> 10) &&& 0x1FF := by
  rw [startYField_eq, BitVec.toNat_ofNat, Nat.mod_eq_of_lt (Nat.and_lt_two_pow _ (by decide))]

/-- Settles O14: the decoder's fields; the two cases of the procedure on a live state; the start read after any command
word; and the gate of a start without a value. -/
theorem setDisplayStartStoresAndNormalizes : Obligations.SetDisplayStartStoresAndNormalizes := by
  refine ⟨fun w => (operandFieldsAreTheShiftsAndMasks w).1, fun s x y hl => ?_, fun s w hl => ?_,
    fun s x y hv => ?_⟩
  · have hv : s.startValid = true := (marks_of_live hl).2
    rw [exec_setDisplayStart_of_live hl]
    refine ⟨fun hsame => ?_, fun hne => ?_⟩
    · rw [setDisplayStart_of_closed ((startGate_eq_false_iff hv _ _ y).mpr hsame)]
    · have hg : startGate config.coldGatesFire (maskStartX x) y s = true := by
        rw [← Bool.not_eq_false, startGate_eq_false_iff hv]
        exact hne
      rw [setDisplayStart_of_open hg, normStart_eq, hv]
      rfl
  · have hstart := setDisplayStart_start (marks_of_live hl).2 config.coldGatesFire (startXField w) (startYField w)
    refine ⟨s.setDisplayStart config.coldGatesFire (startXField w) (startYField w), ?_, ?_, ?_⟩
    · rw [step_issue, decode_select1, exec_setDisplayStart_of_live hl]
    · rw [hstart, maskStartX_startXField, startXField_toNat]
    · rw [hstart, startYField_toNat]
  · rw [setDisplayStart_of_open (startGate_of_not_valid hv _ y)]
    exact ⟨rfl, rfl⟩

/-! ### The two ranges -/

/-- Settles O15: the decoder's fields, then the two cases of the procedure. -/
theorem setHorizontalRangeStoresAndDerives : Obligations.SetHorizontalRangeStoresAndDerives := by
  refine ⟨fun w => (operandFieldsAreTheShiftsAndMasks w).2.1, fun s x1 x2 hl => ?_⟩
  rw [exec_setHorizontalRange_of_live hl]
  obtain ⟨h1, h2, h⟩ | ⟨hne, h⟩ := setHorizontalRange_cases x1 x2 s <;> rw [h]
  · exact ⟨fun _ => rfl, fun hopen => absurd ⟨h1, h2⟩ hopen⟩
  · exact ⟨fun hsame => absurd hsame (not_and_or.mpr hne), fun _ => rfl⟩

/-- Settles O16: the decoder's fields, then the two cases of the procedure. -/
theorem setVerticalRangeStoresAndDerives : Obligations.SetVerticalRangeStoresAndDerives := by
  refine ⟨fun w => (operandFieldsAreTheShiftsAndMasks w).2.2, fun s y1 y2 hl => ?_⟩
  rw [exec_setVerticalRange_of_live hl]
  obtain ⟨h1, h2, h⟩ | ⟨hne, h⟩ := setVerticalRange_cases y1 y2 s <;> rw [h]
  · exact ⟨fun _ => rfl, fun hopen => absurd ⟨h1, h2⟩ hopen⟩
  · exact ⟨fun hsame => absurd hsame (not_and_or.mpr hne), fun _ => rfl⟩

/-! ### `SetMode` -/

theorem newModeField_eq (w : Command) : newModeField w = BitVec.ofNat 8 (w.toNat &&& 0xFF) :=
  extractLsb'_eq_ofNat_shift_mask w 0 8

/-- The selector is bit 6 below bits 1:0 (R59). -/
theorem selector_toNat (m : BitVec 8) :
    (selector m).toNat = ((m.toNat >>> 6) &&& 1) ||| ((m.toNat &&& 3) <<< 1) := by
  have hlow : (modeHres1 m).toNat = m.toNat &&& 3 := by
    rw [modeHres1, BitVec.extractLsb'_toNat, Nat.shiftRight_zero, ← Nat.and_two_pow_sub_one_eq_mod]
  have hbit6 : (BitVec.ofBool (modeHres2 m)).toNat = (m.toNat >>> 6) &&& 1 := by
    rw [modeHres2, BitVec.toNat_ofBool, BitVec.getElem_eq_testBit_toNat, Nat.toNat_testBit, Nat.and_one_is_mod,
      Nat.shiftRight_eq_div_pow]
  rw [selector, BitVec.toNat_append, hlow, hbit6, Nat.or_comm]

/-- Every byte opens the gate of a mode that holds no value, as `COLD_GATES_FIRE` stands (R89, log entry 8). -/
theorem modeGate_of_not_valid {s : State} (hv : s.drawModeValid = false) (m : BitVec 8) :
    modeGate config.coldGatesFire m s = true := by
  rw [modeGate, hv, config_coldGatesFire, coldGate_fires]

theorem setMode_of_closed {fires : Bool} {m : BitVec 8} {s : State} (hg : modeGate fires m s = false) :
    s.setMode fires m = s := by
  simp [State.setMode, hg]

/-- The open gate of `SetMode` in closed form: mode and flags, the Deriver, and the store's write under `cfg.autoStd`
(R53, R54). -/
theorem setMode_of_open {fires : Bool} {m : BitVec 8} {s : State} (hg : modeGate fires m s = true) :
    s.setMode fires m =
      { s with
        ds := (s.ds.writeMode m).updateDisplayArea s.cfg.smooth
        drawModeValid := true
        cfg := if s.cfg.autoStd then { s.cfg with videoStd := standardOf m[3] } else s.cfg
        stdWrites := if s.cfg.autoStd then s.stdWrites ++ [standardOf m[3]] else s.stdWrites } := by
  rw [State.setMode, if_pos hg, State.updateDisplayArea, propagateStandard_smooth, propagateStandard_eq]
  rfl

/-- Settles O17: the mode byte and its selector; the two cases of the gate on a live state; and the gate of a mode
without a value. -/
theorem setModeStoresPropagatesAndDerives : Obligations.SetModeStoresPropagatesAndDerives := by
  refine ⟨fun w => ?_, selector_toNat, fun s m hl => ⟨fun hsame => ?_, fun hne => ?_⟩, fun s m hv => ?_⟩
  · rw [decode_select4, newModeField_eq]
  · have hg : modeGate config.coldGatesFire m s = false := by
      rw [modeGate_of_live _ m hl, hsame, bne_self_eq_false]
    rw [exec_setMode_of_live hl, setMode_of_closed hg]
  · have hg : modeGate config.coldGatesFire m s = true := by
      rw [modeGate_of_live _ m hl]
      exact bne_iff_ne.mpr hne
    rw [exec_setMode_of_live hl, setMode_of_open hg, (marks_of_live hl).1]
    rfl
  · rw [setMode_of_open (modeGate_of_not_valid hv m)]
    exact ⟨rfl, rfl, rfl, rfl⟩

end Sys2Proof.Machine
end

section
/-!
PROOF. O20, O21, O22, O26 and O32 (41_geometry_deriver.md R59 to R66, R71): the divider table through the selector's two
fields, the two standards, the rounding of a horizontal end, the bounds by which the derived size fits its ten bits a
component, and the refresh of both normalized pairs.
-/

namespace Sys2Proof.Machine

/-! ### The divider and the standard -/

/-- The selector's upper bits are the mode byte modulo 4 (R11, R59). -/
theorem modeHres1_toNat (m : BitVec 8) : (modeHres1 m).toNat = m.toNat % 4 := by
  rw [modeHres1, BitVec.extractLsb'_toNat, Nat.shiftRight_zero]

/-- The divider that `hres1` selects while `hres2` is clear (R59). -/
def lowDivider (hres1 : Nat) : Nat :=
  match hres1 with
  | 0 => 10
  | 1 => 8
  | 2 => 5
  | _ => 4

/-- Row by row: every odd entry of the table is 7, and the even ones are the `lowDivider`s. -/
theorem dividers_append (hres1 : BitVec 2) (hres2 : Bool) :
    config.dividers[(hres1 ++ BitVec.ofBool hres2).toNat]'(hres1 ++ BitVec.ofBool hres2).isLt =
      if hres2 then 7 else lowDivider hres1.toNat := by
  revert hres1 hres2; decide

/-- The divider as a function of the mode byte. -/
theorem divider_eq (m : BitVec 8) : divider m = if m[6] then 7 else lowDivider (m.toNat % 4) := by
  rw [← modeHres1_toNat]
  exact dividers_append (modeHres1 m) (modeHres2 m)

/-- Settles O20: the table entry by entry, the selector's formula, and the divider through the selector's two fields. -/
theorem dividerTableIsTheSpecs : Obligations.DividerTableIsTheSpecs :=
  ⟨rfl, fun m => ⟨selector_toNat m, divider_eq m⟩⟩

/-- The constants of the flag's standard with the document's literals (R60). -/
theorem standard_eq (isPal : Bool) : standard isPal = if isPal then ⟨3406, 314⟩ else ⟨3413, 263⟩ := rfl

/-- Settles O21: the invariant makes the cached flag mode bit 3, and the Deriver samples `DS` and `cfg.smooth` only. -/
theorem standardSelectsTheConstants : Obligations.StandardSelectsTheConstants := by
  refine ⟨rfl, rfl, rfl, rfl, fun s hinv hl => ?_, fun s v => ?_⟩
  · obtain ⟨-, hds⟩ := hinv
    obtain ⟨⟨hpal, -, -⟩, -, -, -⟩ := hds hl
    rw [standard_eq, hpal]
  · rw [State.updateDisplayArea_ds, State.updateDisplayArea_ds, State.otherWritesVideoStd_ds,
      State.otherWritesVideoStd_cfg]

/-! ### The horizontal ends -/

/-- Rounding takes less than one divider away. -/
theorem lt_roundedX_add (x cycles : Nat) {div : Nat} (hdiv : 0 < div) :
    min x cycles < roundedX x cycles div + div :=
  Nat.lt_div_mul_add hdiv

/-- Two ends at or below the clamp each move down by at most `div - 1`, so their span moves by at most that. -/
theorem roundedX_span_bounds {x1 x2 cycles div : Nat} (hdiv : 0 < div) (h1 : x1 ≤ cycles) (h2 : x2 ≤ cycles) :
    ((roundedX x2 cycles div : Int) - roundedX x1 cycles div) - ((x2 : Int) - x1) ≤ div - 1 ∧
    ((x2 : Int) - x1) - ((roundedX x2 cycles div : Int) - roundedX x1 cycles div) ≤ div - 1 := by
  have hle1 := roundedX_le x1 cycles div
  have hle2 := roundedX_le x2 cycles div
  have hlt1 := lt_roundedX_add x1 cycles hdiv
  have hlt2 := lt_roundedX_add x2 cycles hdiv
  rw [min_eq_left h1] at hle1 hlt1
  rw [min_eq_left h2] at hle2 hlt2
  omega

/-- Settles O22: the three properties that fix a rounded end, and from them the bounds on the span. -/
theorem horizontalEndsClampThenRound : Obligations.HorizontalEndsClampThenRound :=
  ⟨fun x cycles div hdiv => ⟨dvd_roundedX x cycles div, roundedX_le x cycles div, lt_roundedX_add x cycles hdiv⟩,
    fun _ _ _ _ => roundedX_span_bounds, rfl, fun _ _ => ⟨rfl, rfl⟩⟩

/-! ### The derived size fits in ten bits a component (R19) -/

/-- The alignment only takes pixels away. -/
theorem pixelWidth_le (span div : Nat) : pixelWidth span div ≤ span / div + config.widthBias :=
  Nat.sub_le _ _

/-- The span between two rounded ends is no longer than the line. -/
theorem spanOf_roundedX_le (x1 x2 cycles div : Nat) :
    spanOf (roundedX x1 cycles div) (roundedX x2 cycles div) ≤ cycles :=
  calc spanOf (roundedX x1 cycles div) (roundedX x2 cycles div)
    _ ≤ roundedX x2 cycles div := Nat.sub_le _ _
    _ ≤ min x2 cycles := roundedX_le _ _ _
    _ ≤ cycles := min_le_right _ _

/-- The width is at most a whole line of dots and the bias of the alignment. -/
theorem derivedWidth_le (d : DisplayState) :
    derivedWidth d ≤ (standard d.isPal).cyclesPerScanline / divider d.drawMode + config.widthBias :=
  (pixelWidth_le _ _).trans (Nat.add_le_add_right (Nat.div_le_div_right (spanOf_roundedX_le _ _ _ _)) _)

theorem cyclesPerScanline_le (isPal : Bool) : (standard isPal).cyclesPerScanline ≤ 3413 := by
  revert isPal; decide

theorem totalScanlines_le (isPal : Bool) : (standard isPal).totalScanlines ≤ 314 := by
  revert isPal; decide

/-- No divider is below 4 (R59). -/
theorem four_le_divider (m : BitVec 8) : 4 ≤ divider m := by
  have h := divider_mem m
  simp only [List.mem_cons, List.not_mem_nil, or_false] at h
  omega

/-- The longest line over the least divider is 853 dots, so the width fits. -/
theorem derivedWidth_lt (d : DisplayState) : derivedWidth d < 2 ^ 10 :=
  calc derivedWidth d
    _ ≤ (standard d.isPal).cyclesPerScanline / divider d.drawMode + 2 := derivedWidth_le d
    _ ≤ 3413 / 4 + 2 :=
      Nat.add_le_add_right (Nat.div_le_div (cyclesPerScanline_le _) (four_le_divider _) (by decide)) _
    _ < 2 ^ 10 := by decide

/-- Under the reading of D10 a frame has between 0 and all of its lines. -/
theorem frameHeight_zero_bounds (lines cy1 cy2 : Nat) :
    0 ≤ frameHeight .zero lines cy1 cy2 ∧ frameHeight .zero lines cy1 cy2 ≤ lines := by
  simp only [frameHeight]
  omega

theorem interlaced_false (height : Int) : interlaced false height = height := rfl

theorem interlaced_true (height : Int) : interlaced true height = height * 2 := rfl

/-- The doubling keeps a height's bounds, doubled. -/
theorem interlaced_bounds (il : Bool) {height lines : Int} (h0 : 0 ≤ height) (h : height ≤ lines) :
    0 ≤ interlaced il height ∧ interlaced il height ≤ interlaced il lines := by
  cases il with
  | false => exact ⟨h0, h⟩
  | true => simp only [interlaced_true]; omega

/-- The height is between 0 and the full frame of the standard, doubled when interlaced. -/
theorem derivedHeight_bounds (d : DisplayState) :
    0 ≤ derivedHeight d ∧ derivedHeight d ≤ interlaced d.isInterlaced (standard d.isPal).totalScanlines :=
  have ⟨h0, h⟩ := frameHeight_zero_bounds _ _ _
  interlaced_bounds _ h0 h

/-- The tallest frame has 628 lines, so the height fits. -/
theorem derivedHeight_lt (d : DisplayState) : derivedHeight d < (2 ^ 10 : Nat) := by
  obtain ⟨-, hfull⟩ := derivedHeight_bounds d
  have hlines := totalScanlines_le d.isPal
  cases hi : d.isInterlaced with
  | false => rw [hi, interlaced_false] at hfull; omega
  | true => rw [hi, interlaced_true] at hfull; omega

/-- The stored width loses no bit. -/
theorem derivedSize_w_toNat (d : DisplayState) : (derivedSize d).w.toNat = derivedWidth d :=
  Nat.mod_eq_of_lt (derivedWidth_lt d)

/-- The stored height loses no bit. -/
theorem derivedSize_h_toNat (d : DisplayState) : ((derivedSize d).h.toNat : Int) = derivedHeight d := by
  obtain ⟨h0, -⟩ := derivedHeight_bounds d
  rw [derivedSize, BitVec.toNat_ofInt, Int.emod_eq_of_lt h0 (derivedHeight_lt d), Int.toNat_of_nonneg h0]

/-- Settles O26: both components fit, and the size normalizer works on a copy. -/
theorem updateDisplayAreaStoresTheUneditedSize : Obligations.UpdateDisplayAreaStoresTheUneditedSize :=
  fun _ d => ⟨derivedSize_w_toNat d, derivedSize_h_toNat d, rfl, rfl⟩

/-! ### The refresh -/

/-- On a live state the refresh runs both normalizers. -/
theorem exec_refreshSmoothingAdjustment_of_live {s : State} (hl : s.live = true) :
    exec .refreshSmoothingAdjustment s = .next s.normalizeStart.normalizeSize :=
  whenLive_of_live (op := fun s => s.normalizeStart.normalizeSize) hl

/-- Both normalizers in a row write the two pairs and nothing else (R68, R69). -/
theorem normalizeSize_normalizeStart (s : State) :
    s.normalizeStart.normalizeSize =
      { s with ds := { s.ds with
          startN := normStart s.ds.start s.cfg.smooth
          sizeN := normSize s.ds.size s.cfg.smooth } } := rfl

/-- Settles O32: the two normalizers on a live state, the guard's refusal before the first `Reset`. -/
theorem refreshRecomputesBothPairs : Obligations.RefreshRecomputesBothPairs := by
  refine ⟨fun s hl => ?_, fun s hl => whenLive_of_not_live (op := fun s => s.normalizeStart.normalizeSize) hl⟩
  rw [exec_refreshSmoothingAdjustment_of_live hl, normalizeSize_normalizeStart]

end Sys2Proof.Machine
end

section
/-!
PROOF. O35 and O45 (70_reset_and_hazards.md R87, R93): a `Reset` on a live state in closed form, both gates being plain
comparisons there; and which operation refreshes which normalized pair under the sampled `cfg.smooth`.
-/

namespace Sys2Proof.Machine

/-! ### `Reset` on a live state -/

/-- The registers a `Reset` leaves to the final `UpdateDisplayArea` on a live state: the direct writes, and mode and
flags 0 if the mode gate opened (R87). -/
def DisplayState.resetRegisters (d : DisplayState) : DisplayState :=
  if d.drawMode = 0#8 then d.writeResetRanges else d.writeResetRanges.writeMode 0#8

theorem resetRegisters_of_mode_zero {d : DisplayState} (h : d.drawMode = 0#8) :
    d.resetRegisters = d.writeResetRanges := if_pos h

theorem resetRegisters_of_mode_ne_zero {d : DisplayState} (h : d.drawMode ≠ 0#8) :
    d.resetRegisters = d.writeResetRanges.writeMode 0#8 := if_neg h

/-- Whether or not the mode gate opens, the mode then is 0. -/
theorem resetRegisters_drawMode (d : DisplayState) : d.resetRegisters.drawMode = 0#8 := by
  by_cases h : d.drawMode = 0#8
  · rw [resetRegisters_of_mode_zero h]
    exact h
  · rw [resetRegisters_of_mode_ne_zero h]
    rfl

/-- `SetMode(0)` touches none of the five direct writes of `Reset`. -/
theorem resetRegisters_directWrites (d : DisplayState) :
    d.resetRegisters.rangeX1 = config.resetX1 ∧ d.resetRegisters.rangeX2 = config.resetX2 ∧
      d.resetRegisters.rangeY1 = config.resetY1 ∧ d.resetRegisters.rangeY2 = config.resetY2 ∧
      d.resetRegisters.enabled = false := by
  unfold DisplayState.resetRegisters
  split <;> exact ⟨rfl, rfl, rfl, rfl, rfl⟩

/-- The mode gate of a live `Reset` opens exactly on a mode other than 0 (R53). -/
theorem modeGate_zero_iff {s : State} (hl : s.live = true) (fires : Bool) :
    modeGate fires 0#8 s = true ↔ s.ds.drawMode ≠ 0#8 := by
  rw [modeGate_of_live fires _ hl, bne_iff_ne, ne_comm]

/-- The start gate of a live `Reset` opens exactly on a start other than (0, 0) (R50). -/
theorem startGate_zero_iff {s : State} (hl : s.live = true) (fires : Bool) :
    startGate fires 0#10 0#9 s = true ↔ s.ds.start ≠ ⟨0#10, 0#9⟩ := by
  rw [← Bool.not_eq_false, startGate_eq_false_iff (marks_of_live hl).2, ne_comm, Ne]
  cases s.ds.start with
  | mk x y => rw [Start.mk.injEq]

/-- `Reset` on a live state in closed form (R87): each gate is a comparison with the stored register, and the final
`UpdateDisplayArea` runs whatever the gates did. -/
theorem resetEngine_of_live {s : State} (hl : s.live = true) (fires : Bool) :
    s.resetEngine fires =
      { s with
        ds := { s.ds.resetRegisters with
          start := ⟨0#10, 0#9⟩
          startN := if s.ds.start ≠ ⟨0#10, 0#9⟩ then normStart ⟨0#10, 0#9⟩ s.cfg.smooth else s.ds.startN
          size := derivedSize s.ds.resetRegisters
          sizeN := normSize (derivedSize s.ds.resetRegisters) s.cfg.smooth }
        cfg := if s.ds.drawMode ≠ 0#8 ∧ s.cfg.autoStd = true then { s.cfg with videoStd := .ntsc } else s.cfg
        stdWrites :=
          if s.ds.drawMode ≠ 0#8 ∧ s.cfg.autoStd = true then s.stdWrites ++ [.ntsc] else s.stdWrites } := by
  obtain ⟨hm, hs⟩ := marks_of_live hl
  have hstart : (if s.ds.start ≠ ⟨0#10, 0#9⟩ then (⟨0#10, 0#9⟩ : Start) else s.ds.start) = ⟨0#10, 0#9⟩ :=
    ite_eq_left_iff.mpr not_ne_iff.mp
  have hregs : (if s.ds.drawMode ≠ 0#8 then s.ds.writeResetRanges.writeMode 0#8 else s.ds.writeResetRanges) =
      s.ds.resetRegisters := ite_not _ _ _
  simp only [resetEngine_eq, Bool.and_eq_true, modeGate_zero_iff hl, startGate_zero_iff hl, hstart, hregs, hm, hs]

/-- `Reset` answers on every state (R87). -/
theorem exec_reset (s : State) : exec .reset s = .next (s.resetEngine config.coldGatesFire) := rfl

/-- Settles O35: each clause is a field of the closed form of `Reset` on a live state. -/
theorem resetRunsItsSteps : Obligations.ResetRunsItsSteps := by
  intro s hl
  obtain ⟨hx1, hx2, hy1, hy2, hen⟩ := resetRegisters_directWrites s.ds
  refine ⟨_, exec_reset s, ?_⟩
  rw [resetEngine_of_live hl]
  refine ⟨congrArg BitVec.toNat hx1, congrArg BitVec.toNat hx2, congrArg BitVec.toNat hy1, congrArg BitVec.toNat hy2,
    hen, resetRegisters_drawMode s.ds, rfl, fun hne => ?_, fun heq => ?_, fun hne => if_pos hne,
    fun heq => if_neg (not_not.mpr heq), rfl, rfl, fun hw => ⟨if_pos hw, if_pos hw⟩, fun hw => ⟨if_neg hw, if_neg hw⟩,
    hl, rfl, rfl⟩
  · rw [resetRegisters_of_mode_ne_zero hne]
    exact ⟨rfl, rfl, rfl⟩
  · rw [resetRegisters_of_mode_zero heq]
    exact ⟨rfl, rfl, rfl⟩

/-! ### Which operation refreshes which pair -/

/-- Changing `cfg.smooth` changes that input and runs no rule (30_encoding.md R48). -/
theorem step_of_setSmooth {s : State} {b : Bool} {rest : List HostAction} (h : s.script = .setSmooth b :: rest) :
    step s = .next (State.driveSmooth b { s with script := rest }) := by
  simp only [step, h]

/-- R93's run: a toggle, then an open horizontal range; the start pair still stands at `cfg.smooth` = 0, the size pair
at 1. -/
theorem run_toggle_then_range_leaves_pairs_disagreeing :
    ∃ t : State,
      Host.Core.run core 2 { State.reset with script :=
        [.setSmooth true, .transact (transaction 2 0x00C01200#32)] } = .next t ∧
      t.ds.startN = normStart t.ds.start false ∧ t.ds.startN ≠ normStart t.ds.start true ∧
      t.ds.sizeN = normSize t.ds.size true ∧ t.ds.sizeN ≠ normSize t.ds.size false :=
  ⟨_, rfl, by decide⟩

/-- Settles O45: the run by evaluation, then each operation's pairs by the closed form its own statement gives
(R50 to R53, R71, R87). -/
theorem toggleLeavesPairsStaleUntilRefreshed : Obligations.ToggleLeavesPairsStaleUntilRefreshed := by
  obtain ⟨-, hstart, -⟩ := setDisplayStartStoresAndNormalizes
  obtain ⟨-, hhorizontal⟩ := setHorizontalRangeStoresAndDerives
  obtain ⟨-, hvertical⟩ := setVerticalRangeStoresAndDerives
  obtain ⟨-, -, hmode, -⟩ := setModeStoresPropagatesAndDerives
  obtain ⟨hrefresh, -⟩ := refreshRecomputesBothPairs
  refine ⟨run_toggle_then_range_leaves_pairs_disagreeing, fun s hl => ⟨fun b rest h => ?toggle, fun x y hne => ?start,
    fun a b hne => ?horizontal, fun a b hne => ?vertical, fun m hne => ?mode, ?reset, ?refresh⟩⟩
  case toggle => exact ⟨_, step_of_setSmooth h, rfl, rfl⟩
  case start => exact ⟨_, (hstart s x y hl).2 hne, rfl, rfl⟩
  case horizontal => exact ⟨_, (hhorizontal s a b hl).2 hne, rfl, rfl⟩
  case vertical => exact ⟨_, (hvertical s a b hl).2 hne, rfl, rfl⟩
  case mode => exact ⟨_, (hmode s m hl).2 hne, rfl, rfl⟩
  case reset =>
    refine ⟨_, exec_reset s, ?_⟩
    rw [resetEngine_of_live hl]
    exact ⟨rfl, fun hne => if_pos hne, fun heq => if_neg (not_not.mpr heq)⟩
  case refresh => exact ⟨_, hrefresh s hl, rfl, rfl, rfl, rfl⟩

end Sys2Proof.Machine
end

section
/-!
PROOF. O1 to O3 and O5 to O7 (30_encoding.md sections 1 to 3, 5 and 6): a command word of the patterns is two fields
side by side, so extracting a field from an encoded word gives the field, and encoding what a word decodes to gives the
word's field bits. The decoder reads those bits only.
-/

namespace Sys2Proof

/-! ### Two fields side by side -/

section twoFields

variable {n k : Nat}

/-- A command word with the field `lo` in its lowest bits, the field `hi` above it, and 0 elsewhere: the shape of every
two-operand pattern of 30_encoding.md section 6. -/
def twoFields (hi : BitVec n) (lo : BitVec k) : Command := (hi.setWidth 32 <<< k) ||| lo.setWidth 32

theorem getLsbD_twoFields (hi : BitVec n) (lo : BitVec k) {j : Nat} (hj : j < 32) :
    (twoFields hi lo).getLsbD j = if j < k then lo.getLsbD j else hi.getLsbD (j - k) := by
  by_cases h : j < k
  · simp [twoFields, hj, h]
  · simp [twoFields, hj, h, BitVec.getLsbD_of_ge lo j (by omega)]

/-- Extracting the lower field gives it back. -/
theorem extractLsb'_twoFields_low (hi : BitVec n) (lo : BitVec k) (hk : k ≤ 32) :
    (twoFields hi lo).extractLsb' 0 k = lo := by
  apply BitVec.eq_of_getLsbD_eq
  intro j hj
  rw [BitVec.getLsbD_extractLsb', Nat.zero_add, getLsbD_twoFields hi lo (by omega)]
  simp [hj]

/-- Extracting the upper field gives it back. -/
theorem extractLsb'_twoFields_high (hi : BitVec n) (lo : BitVec k) (hn : k + n ≤ 32) :
    (twoFields hi lo).extractLsb' k n = hi := by
  apply BitVec.eq_of_getLsbD_eq
  intro j hj
  rw [BitVec.getLsbD_extractLsb', getLsbD_twoFields hi lo (by omega)]
  simp [hj]

/-- The two lowest fields of a word, put together again, are its lowest bits. -/
theorem twoFields_extractLsb' (c : Command) (n k : Nat) :
    twoFields (c.extractLsb' k n) (c.extractLsb' 0 k) = c &&& (BitVec.allOnes (k + n)).setWidth 32 := by
  apply BitVec.eq_of_getLsbD_eq
  intro j hj
  rw [getLsbD_twoFields _ _ hj]
  by_cases h : j < k
  · have hkn : j < k + n := by omega
    simp [h, hj, hkn]
  · have hback : k + (j - k) = j := by omega
    have hin : j - k < n ↔ j < k + n := by omega
    simp [h, hj, hback, hin, Bool.and_comm]

/-- The word as R48 writes it: the upper operand shifted up, the lower one in its place. -/
theorem twoFields_eq_ofNat (hi : BitVec n) (lo : BitVec k) :
    twoFields hi lo = BitVec.ofNat 32 ((hi.toNat <<< k) ||| lo.toNat) := by
  rw [BitVec.ofNat_or, BitVec.ofNat_toNat, twoFields]
  congr 1
  apply BitVec.eq_of_toNat_eq
  simp [Nat.shiftLeft_eq]

end twoFields

/-- The lowest bits of a word, alone. -/
theorem setWidth_extractLsb'_zero (c : Command) (n : Nat) :
    (c.extractLsb' 0 n).setWidth 32 = c &&& (BitVec.allOnes n).setWidth 32 := by
  apply BitVec.eq_of_getLsbD_eq
  intro j hj
  simp [hj, Bool.and_comm]

/-! ### The encoder undone -/

theorem commandWord_setDisplayStart (x : BitVec 10) (y : BitVec 9) :
    commandWord (.setDisplayStart x y) = twoFields y x := rfl

theorem commandWord_setHorizontalRange (x1 x2 : BitVec 12) :
    commandWord (.setHorizontalRange x1 x2) = twoFields x2 x1 := rfl

theorem commandWord_setVerticalRange (y1 y2 : BitVec 10) :
    commandWord (.setVerticalRange y1 y2) = twoFields y2 y1 := rfl

/-- Masking bit 0 away leaves an even `startX` as it is (R39). -/
theorem and_mask_of_even {x : BitVec 10} (h : x[0] = false) : x &&& 0x3FE#10 = x := by
  have hmask : ∀ j < 10, (0x3FE#10).getLsbD j = decide (j ≠ 0) := by decide
  apply BitVec.eq_of_getLsbD_eq
  intro j hj
  rw [BitVec.getLsbD_and, hmask j hj]
  by_cases h0 : j = 0
  · subst h0
    simpa [BitVec.getLsbD_eq_getElem] using h
  · simp [h0]

theorem newModeField_setWidth (m : BitVec 8) : newModeField (m.setWidth 32) = m := by
  rw [newModeField, ← BitVec.setWidth_eq_extractLsb' (by decide), BitVec.setWidth_setWidth_of_le m (by decide),
    BitVec.setWidth_eq]

theorem enabledField_ofBool (e : Bool) : enabledField ((BitVec.ofBool e).setWidth 32) = e := by
  cases e <;> rfl

/-- Settles O1: row by row, the decoder of the row's select extracts the fields the encoder put side by side. -/
theorem encodeThenDecodeGivesTheOperation : Obligations.EncodeThenDecodeGivesTheOperation := by
  intro i hwf
  cases i with
  | reset => exact decode_select0 _
  | setDisplayStart x y =>
    have heven : x[0] = false := by simpa [Instr.wellFormed] using hwf
    refine (decode_select1 _).trans ?_
    rw [commandWord_setDisplayStart, startXField, startYField, extractLsb'_twoFields_low y x (by decide),
      extractLsb'_twoFields_high y x (by decide), and_mask_of_even heven]
  | setHorizontalRange x1 x2 =>
    refine (decode_select2 _).trans ?_
    rw [commandWord_setHorizontalRange, newX1Field, newX2Field, extractLsb'_twoFields_low x2 x1 (by decide),
      extractLsb'_twoFields_high x2 x1 (by decide)]
  | setVerticalRange y1 y2 =>
    refine (decode_select3 _).trans ?_
    rw [commandWord_setVerticalRange, newY1Field, newY2Field, extractLsb'_twoFields_low y2 y1 (by decide),
      extractLsb'_twoFields_high y2 y1 (by decide)]
  | setMode m =>
    refine (decode_select4 _).trans ?_
    rw [commandWord, newModeField_setWidth]
  | refreshSmoothingAdjustment => exact decode_select5 _
  | writeEnabled e =>
    refine (decode_select6 _).trans ?_
    rw [commandWord, enabledField_ofBool]
  | reserved7 => exact decode_select7 _

/-! ### The decoder undone -/

/-- The command word of the decoded row holds the field bits. The fields of a pair fill one run of bits, but for bit 0
of `startX`, which the mask clears first. -/
theorem commandWord_decode (op : Select) (w : Command) :
    commandWord (decode (transaction op w)) = w &&& fieldMask op := by
  obtain rfl | rfl | rfl | rfl | rfl | rfl | rfl | rfl := select_cases op
  · rw [decode_select0]; exact BitVec.and_zero.symm
  · have hx : startXField w = (w &&& fieldMask 1).extractLsb' 0 10 := by
      rw [BitVec.extractLsb'_and]; rfl
    have hy : startYField w = (w &&& fieldMask 1).extractLsb' 10 9 := (startYField_and_fieldMask w).symm
    rw [decode_select1, commandWord_setDisplayStart, hx, hy, twoFields_extractLsb', BitVec.and_assoc]
    rfl
  · rw [decode_select2, commandWord_setHorizontalRange]; exact twoFields_extractLsb' w 12 12
  · rw [decode_select3, commandWord_setVerticalRange]; exact twoFields_extractLsb' w 10 10
  · rw [decode_select4]; exact setWidth_extractLsb'_zero w 8
  · rw [decode_select5]; exact BitVec.and_zero.symm
  · have hbit : BitVec.ofBool (enabledField w) = w.extractLsb' 0 1 := by
      apply BitVec.eq_of_getLsbD_eq
      intro j hj
      obtain rfl : j = 0 := by omega
      simp [enabledField, BitVec.getLsbD_eq_getElem]
    rw [decode_select6, commandWord, hbit]
    exact setWidth_extractLsb'_zero w 1
  · rw [decode_select7]; exact BitVec.and_zero.symm

/-- Encoding what a word decodes to clears the ignored bits. -/
theorem encode_decode (op : Select) (w : Command) :
    encode (decode (transaction op w)) = transaction op (w &&& fieldMask op) := by
  rw [encode, selectCode_decode, commandWord_decode]

/-- The masked word, with the mask on the whole transaction: the select's bits and the field bits. -/
theorem encode_decode_eq_and (op : Select) (t : Transaction) (h : selectOf t = op) :
    encode (decode t) = t &&& transaction 7 (fieldMask op) := by
  obtain ⟨w, rfl⟩ : ∃ w, t = transaction op w := ⟨commandOf t, by rw [← h, transaction_eta]⟩
  have hselect : op &&& 7 = op := BitVec.and_allOnes
  rw [encode_decode, transaction, transaction, transaction, BitVec.and_append, hselect]

/-- A decoded `startX` is even (R39). -/
theorem startXField_even (w : Command) : (startXField w)[0] = false := by
  simp [startXField]

/-- The decoder gives well-formed operations only. -/
theorem decode_wellFormed (op : Select) (w : Command) : (decode (transaction op w)).wellFormed = true := by
  obtain rfl | rfl | rfl | rfl | rfl | rfl | rfl | rfl := select_cases op
  · rw [decode_select0]; rfl
  · rw [decode_select1, Instr.wellFormed, startXField_even]; rfl
  · rw [decode_select2]; rfl
  · rw [decode_select3]; rfl
  · rw [decode_select4]; rfl
  · rw [decode_select5]; rfl
  · rw [decode_select6]; rfl
  · rw [decode_select7]; rfl

/-- Settles O2: one law for all selects, `encode_decode_eq_and`, whose mask is read off at each. -/
theorem decodeKeepsExactlyTheFieldBits : Obligations.DecodeKeepsExactlyTheFieldBits := by
  intro t
  refine ⟨?_, encode_decode_eq_and 0 t, encode_decode_eq_and 1 t, encode_decode_eq_and 2 t, encode_decode_eq_and 3 t,
    encode_decode_eq_and 4 t, encode_decode_eq_and 5 t, encode_decode_eq_and 6 t, encode_decode_eq_and 7 t⟩
  rw [← transaction_eta t]
  exact decode_wellFormed _ _

/-- Words with one select and the same field bits are the same operation (R45). -/
theorem decode_congr {t u : Transaction} (hop : selectOf t = selectOf u)
    (hfields : commandOf t &&& fieldMask (selectOf t) = commandOf u &&& fieldMask (selectOf t)) :
    decode t = decode u := by
  rw [← transaction_eta t, ← transaction_eta u, ← hop, ← decode_and_fieldMask, hfields, decode_and_fieldMask]

/-- Settles O3: the step sees the decoded operation only. -/
theorem ignoredBitsHaveNoEffect : Obligations.IgnoredBitsHaveNoEffect := by
  intro s rest t u hop hfields
  have hdecode : decode t = decode u := decode_congr hop hfields
  exact congrArg (fun i => Machine.exec i { s with script := rest }) hdecode

/-! ### Single words and the pseudo-forms -/

/-- Bit 0 of a word is its remainder by 2 (R44). -/
theorem enabledField_eq (w : Command) : enabledField w = decide (w.toNat % 2 = 1) := by
  rw [enabledField, BitVec.getElem_eq_testBit_toNat, Nat.testBit_zero]

/-- Settles O5: the decoder at the four selects. -/
theorem otherSelectsDecode : Obligations.OtherSelectsDecode := by
  intro w
  refine ⟨decode_select0 w, decode_select5 w, ?_, decode_select7 w⟩
  rw [decode_select6, enabledField_eq]

/-- Settles O6: each of the eight fixed words, evaluated. -/
theorem programWordsDecode : Obligations.ProgramWordsDecode :=
  ⟨by decide, by decide, by decide, by decide, by decide, by decide, by decide, by decide⟩

/-- The mode byte of the named fields, as the document writes it (R48): 64 cases. -/
theorem setWidth_modeByte (h : BitVec 2) (g p k i : Bool) :
    (modeByte h g p k i).setWidth 32 =
      BitVec.ofNat 32 ((g.toNat <<< 6) ||| (i.toNat <<< 5) ||| (k.toNat <<< 4) ||| (p.toNat <<< 3) ||| h.toNat) := by
  revert h g p k i; decide

/-- Settles O7: the command word of each form, under the select of its row. -/
theorem pseudoFormsExpand : Obligations.PseudoFormsExpand :=
  ⟨fun x y _ => congrArg (transaction 1) (twoFields_eq_ofNat y x),
    fun a b => congrArg (transaction 2) (twoFields_eq_ofNat b a),
    fun a b => congrArg (transaction 3) (twoFields_eq_ofNat b a),
    fun h g p k i => congrArg (transaction 4) (setWidth_modeByte h g p k i)⟩

end Sys2Proof
end

section
/-!
PROOF. O8 to O10, O12, O13 and O18: what one step of each kind of host action does, the value a read port shows, and
the operations before the first `Reset` (10_state.md R26, R27; 30_encoding.md R46, R48; 70_reset_and_hazards.md R92).
-/

namespace Sys2Proof

/-- A number the table's decoder accepts is decoded as the transaction of its bits. -/
theorem decode_of_decodeTableWord {nbits w : Nat} {i : Instr} (h : decodeTableWord nbits w = some i) :
    decode (BitVec.ofNat 35 (w % 2 ^ nbits)) = i := by
  rw [decodeTableWord, decodeNumber] at h
  by_cases hw : w % 2 ^ nbits < 2 ^ 35
  · rw [if_pos hw] at h
    exact Option.some.inj h
  · rw [if_neg hw] at h
    cases h

end Sys2Proof

namespace Sys2Proof.Machine

/-! ### One step, by the host's next action -/

theorem step_of_idle {s : State} (h : s.script = []) : step s = .next s := by
  simp only [step, h]

theorem step_of_transact {s : State} {t : Transaction} {rest : List HostAction} (h : s.script = .transact t :: rest) :
    step s = exec (decode t) { s with script := rest } := by
  simp only [step, h]

theorem step_of_setAutoStd {s : State} {b : Bool} {rest : List HostAction} (h : s.script = .setAutoStd b :: rest) :
    step s = .next (State.driveAutoStd b { s with script := rest }) := by
  simp only [step, h]

theorem step_of_setVideoStd {s : State} {v : VideoStd} {rest : List HostAction}
    (h : s.script = .setVideoStd v :: rest) :
    step s = .next (State.otherWritesVideoStd v { s with script := rest }) := by
  simp only [step, h]

theorem step_of_read {s : State} {p : Port} {rest : List HostAction} (h : s.script = .read p :: rest) :
    step s = readPort p { s with script := rest } := by
  simp only [step, h]

/-- Settles O8: the step's arm for a transaction, and the table's decoder on the word put on the ports. -/
theorem stepRunsTheDecodedTransaction : Obligations.StepRunsTheDecodedTransaction := by
  refine ⟨fun s t rest h => step_of_transact h, fun s w i h _ => ?_⟩
  rw [step_withFetchWord, decode_of_decodeTableWord h]

/-- Settles O9: the step's arms for the three inputs and for the idle host. -/
theorem hostActionsChangeOnlyTheirInput : Obligations.HostActionsChangeOnlyTheirInput :=
  fun _ _ => ⟨fun _ h => step_of_setSmooth h, fun _ h => step_of_setAutoStd h, fun _ h => step_of_setVideoStd h,
    step_of_idle⟩

/-! ### The read ports -/

/-- The field a port stands for, as a number (10_state.md R26). -/
def portField (d : DisplayState) (p : Port) : Nat :=
  match p with
  | .startX => d.start.x.toNat | .startY => d.start.y.toNat
  | .sizeW => d.size.w.toNat | .sizeH => d.size.h.toNat
  | .startNX => d.startN.x.toNat | .startNY => d.startN.y.toNat
  | .sizeNX => d.sizeN.x.toNat | .sizeNY => d.sizeN.y.toNat
  | .isPal => d.isPal.toNat | .is24Bit => d.is24Bit.toNat
  | .isInterlaced => d.isInterlaced.toNat | .enabled => d.enabled.toNat

theorem toNat_setWidth_ofBool (b : Bool) : ((BitVec.ofBool b).setWidth 32).toNat = b.toNat := by
  cases b <;> rfl

/-- A port shows its field with no bit lost or added. -/
theorem portValue_toNat (d : DisplayState) (p : Port) : (portValue d p).toNat = portField d p := by
  cases p with
  | startX => exact BitVec.toNat_setWidth_of_le (by decide)
  | startY => exact BitVec.toNat_setWidth_of_le (by decide)
  | sizeW => exact BitVec.toNat_setWidth_of_le (by decide)
  | sizeH => exact BitVec.toNat_setWidth_of_le (by decide)
  | startNX => rfl
  | startNY => rfl
  | sizeNX => rfl
  | sizeNY => rfl
  | isPal => exact toNat_setWidth_ofBool _
  | is24Bit => exact toNat_setWidth_ofBool _
  | isInterlaced => exact toNat_setWidth_ofBool _
  | enabled => exact toNat_setWidth_ofBool _

/-- Settles O10: the read's two cases; taking the action off the script does not change whether `DS` holds values. -/
theorem readPortsShowTheFields : Obligations.ReadPortsShowTheFields := by
  intro s p rest h
  rw [step_of_read h]
  obtain ⟨hl, hr⟩ | ⟨hl, hr⟩ := readPort_cases p { s with script := rest } <;> rw [hr]
  · exact ⟨fun hn => absurd (hn.symm.trans hl) Bool.false_ne_true,
      fun _ => ⟨portValue s.ds p, rfl, portValue_toNat s.ds p⟩⟩
  · exact ⟨fun _ => rfl, fun hy => absurd (hl.symm.trans hy) Bool.false_ne_true⟩

/-! ### Refusals, and `WriteEnabled` -/

/-- Settles O12: the reserved row, and the word of select 7, which decodes to it. -/
theorem reservedSelectIsRefused : Obligations.ReservedSelectIsRefused := by
  intro s w
  refine ⟨rfl, ?_⟩
  rw [step_issue, decode_select7]
  rfl

/-- Settles O13: the guard of the six operations, and `Reset`, which has none and sets both marks. -/
theorem onlyResetRunsBeforeTheFirstReset : Obligations.OnlyResetRunsBeforeTheFirstReset := by
  intro s hl
  exact ⟨fun _ _ => whenLive_of_not_live hl, fun _ _ => whenLive_of_not_live hl, fun _ _ => whenLive_of_not_live hl,
    fun _ => whenLive_of_not_live hl, refreshRecomputesBothPairs.2 s hl,
    fun e => whenLive_of_not_live (op := fun s => { s with ds := { s.ds with enabled := e } }) hl,
    _, exec_reset s, resetEngine_live _ s⟩

/-- Settles O18: past the guard the operation is the one write. -/
theorem writeEnabledWritesOnlyEnabled : Obligations.WriteEnabledWritesOnlyEnabled :=
  fun _ e hl => whenLive_of_live (op := fun s => { s with ds := { s.ds with enabled := e } }) hl

end Sys2Proof.Machine
end

section
/-!
PROOF. O36 to O39 (70_reset_and_hazards.md R88 to R91): the registers of a completed `Reset` as one table over the start
pair it leaves; the first `Reset` and a later one give that table, and differ in the start pair and the store's write.
-/

namespace Sys2Proof.Machine

/-! ### The table -/

/-- `DS` after a `Reset` that leaves the start pair `startN`, under the sampled `cfg.smooth` (the table of R88). -/
def DisplayState.resetTable (startN : NormPair) (smooth : Bool) : DisplayState where
  drawMode := 0x00
  isPal := false
  is24Bit := false
  isInterlaced := false
  enabled := false
  rangeX1 := config.resetX1
  rangeX2 := config.resetX2
  rangeY1 := config.resetY1
  rangeY2 := config.resetY2
  start := ⟨0, 0⟩
  size := ⟨256, 247⟩
  startN := startN
  sizeN := normSize ⟨256, 247⟩ smooth

/-- The words of the reset size (95_test_vectors.md section 2.5). -/
theorem normSize_reset (smooth : Bool) :
    normSize ⟨256, 247⟩ smooth =
      if smooth then ⟨0x3E7E0000#32, 0x3EF50000#32⟩ else ⟨0x3E800000#32, 0x3EF70000#32⟩ := by
  cases smooth <;> decide

/-- The words of the start (0, 0) (95_test_vectors.md section 2.5). -/
theorem normStart_zero (smooth : Bool) :
    normStart ⟨0#10, 0#9⟩ smooth =
      if smooth then ⟨0x3A800000#32, 0x3B000000#32⟩ else ⟨0x00000000#32, 0x00000000#32⟩ := by
  cases smooth <;> decide

/-- Registers at mode 0, flags clear and the direct writes made derive the table. -/
theorem eq_resetTable {d : DisplayState} (hm : d.drawMode = 0#8)
    (hflags : d.isPal = false ∧ d.is24Bit = false ∧ d.isInterlaced = false)
    (hwrites : d.rangeX1 = config.resetX1 ∧ d.rangeX2 = config.resetX2 ∧ d.rangeY1 = config.resetY1 ∧
      d.rangeY2 = config.resetY2 ∧ d.enabled = false) (startN : NormPair) (smooth : Bool) :
    { d with
      start := ⟨0#10, 0#9⟩
      startN := startN
      size := derivedSize d
      sizeN := normSize (derivedSize d) smooth } = DisplayState.resetTable startN smooth := by
  obtain ⟨hp, h24, hi⟩ := hflags
  obtain ⟨hx1, hx2, hy1, hy2, hen⟩ := hwrites
  rw [derivedSize_reset hm hp hi hx1 hx2 hy1 hy2, hm, hp, h24, hi, hx1, hx2, hy1, hy2, hen]
  rfl

/-! ### The first `Reset` -/

/-- With both marks clear both gates open, and nothing of the old registers is left (R89). -/
theorem resetEngine_of_marks_clear {s : State} (hm : s.drawModeValid = false) (hs : s.startValid = false) :
    s.resetEngine config.coldGatesFire =
      { ds := DisplayState.resetTable (normStart ⟨0#10, 0#9⟩ s.cfg.smooth) s.cfg.smooth
        drawModeValid := true
        startValid := true
        cfg := if s.cfg.autoStd then { s.cfg with videoStd := .ntsc } else s.cfg
        stdWrites := if s.cfg.autoStd then s.stdWrites ++ [.ntsc] else s.stdWrites
        reads := s.reads
        script := s.script } := by
  rw [resetEngine_eq, modeGate_of_not_valid hm, startGate_of_not_valid hs, Bool.true_and,
    ← eq_resetTable (d := s.ds.writeResetRanges.writeMode 0#8) rfl ⟨rfl, rfl, rfl⟩ ⟨rfl, rfl, rfl, rfl, rfl⟩]
  rfl

/-- Settles O36: the closed form with both gates open, its pairs written out. -/
theorem firstResetGivesTheTable : Obligations.FirstResetGivesTheTable := by
  intro s hm hs
  rw [exec_reset, resetEngine_of_marks_clear hm hs, DisplayState.resetTable, normSize_reset, normStart_zero]
  rfl

/-- Settles O38: the first `Reset`, read at the power-on state. -/
theorem resetFromPowerOnIsTheResetState : Obligations.ResetFromPowerOnIsTheResetState :=
  firstResetGivesTheTable State.powerOn rfl rfl

/-! ### A later `Reset` -/

/-- Whether or not the mode gate opens, the flags agree with mode 0 once they agree with the mode. -/
theorem resetRegisters_flags {d : DisplayState} (hf : FlagsAgree d) :
    d.resetRegisters.isPal = false ∧ d.resetRegisters.is24Bit = false ∧ d.resetRegisters.isInterlaced = false := by
  obtain ⟨hp, h24, hi⟩ := hf
  by_cases h : d.drawMode = 0#8
  · rw [h] at hp h24 hi
    rw [resetRegisters_of_mode_zero h]
    exact ⟨hp, h24, hi⟩
  · rw [resetRegisters_of_mode_ne_zero h]
    exact ⟨rfl, rfl, rfl⟩

/-- A `Reset` on a live state gives the table, with the start pair as its gate leaves it (R90). -/
theorem resetEngine_of_flagsAgree {s : State} (hl : s.live = true) (hf : FlagsAgree s.ds) (fires : Bool) :
    s.resetEngine fires =
      { s with
        ds := DisplayState.resetTable
          (if s.ds.start ≠ ⟨0#10, 0#9⟩ then normStart ⟨0#10, 0#9⟩ s.cfg.smooth else s.ds.startN) s.cfg.smooth
        cfg := if s.ds.drawMode ≠ 0#8 ∧ s.cfg.autoStd = true then { s.cfg with videoStd := .ntsc } else s.cfg
        stdWrites :=
          if s.ds.drawMode ≠ 0#8 ∧ s.cfg.autoStd = true then s.stdWrites ++ [.ntsc] else s.stdWrites } := by
  rw [resetEngine_of_live hl,
    eq_resetTable (resetRegisters_drawMode s.ds) (resetRegisters_flags hf) (resetRegisters_directWrites s.ds)]

/-- Settles O37: the closed form on a live state, its pairs written out. -/
theorem laterResetGivesTheTable : Obligations.LaterResetGivesTheTable := by
  intro s hl hf
  have hwrite : (s.cfg.autoStd && s.ds.drawMode != 0#8) = true ↔ s.ds.drawMode ≠ 0#8 ∧ s.cfg.autoStd = true := by
    rw [Bool.and_eq_true, bne_iff_ne, and_comm]
  rw [exec_reset, resetEngine_of_flagsAgree hl hf, DisplayState.resetTable, normSize_reset, normStart_zero, ite_not]
  simp only [hwrite]
  rfl

/-! ### The other setting of `COLD_GATES_FIRE` -/

/-- Zero power-up contents close both gates where they do not fire (R89). -/
theorem gates_closed_of_powerUp {s : State} (h : s.ds = DisplayState.powerUp) :
    modeGate false 0#8 s = false ∧ startGate false 0#10 0#9 s = false := by
  simp only [modeGate, startGate, h]
  exact ⟨rfl, rfl⟩

/-- Settles O39: `Reset` over its two gates, closed on one side and open on the other; the zero registers have the
flags of mode 0, so the closed mode gate loses none of them. -/
theorem coldGatesClosedDifferInTwoWays : Obligations.ColdGatesClosedDifferInTwoWays := by
  intro s hds hm hs
  obtain ⟨hmode, hstart⟩ := gates_closed_of_powerUp hds
  have hmode' : modeGate true 0#8 s = true := modeGate_of_not_valid hm _
  have hstart' : startGate true 0#10 0#9 s = true := startGate_of_not_valid hs _ _
  rw [resetEngine_eq, resetEngine_eq, hmode, hstart, hmode', hstart', hds]
  rfl

end Sys2Proof.Machine
end

section
/-!
PROOF. O40 and O41 (10_state.md sections 1 to 6; 40_register_decoder.md R54; 70_reset_and_hazards.md R91, R96): what
each operation can write at all, and when it writes the store.
-/

namespace Sys2Proof.Machine

/-! ### The writers of each field -/

/-- After at most one write of `cfg.videoStd` the two inputs stand. -/
theorem written_store (w : Bool) (v : VideoStd) (cfg : ConfigStore) :
    (if w = true then { cfg with videoStd := v } else cfg) =
      { cfg with videoStd := if w = true then v else cfg.videoStd } := by
  cases w <;> rfl

/-- The store after a `Reset`, whether or not it was written. -/
theorem resetEngine_cfg (fires : Bool) (s : State) :
    (s.resetEngine fires).cfg =
      { s.cfg with videoStd := if (modeGate fires 0#8 s && s.cfg.autoStd) = true then .ntsc else s.cfg.videoStd } := by
  rw [resetEngine_eq, ← written_store]

/-- `Reset` writes any field of `DS`, but of the rest of the state only the marks and the store's one item (R87). -/
theorem resetEngine_rest (fires : Bool) (s : State) :
    (s.resetEngine fires).cfg.smooth = s.cfg.smooth ∧ (s.resetEngine fires).cfg.autoStd = s.cfg.autoStd ∧
      (s.resetEngine fires).reads = s.reads ∧ (s.resetEngine fires).script = s.script := by
  rw [resetEngine_cfg, resetEngine_eq]
  exact ⟨rfl, rfl, rfl, rfl⟩

/-- Settles O40: each operation by its procedure, and each procedure by what its closed and its open gate do. -/
theorem fieldsHaveOnlyTheirWriters : Obligations.FieldsHaveOnlyTheirWriters := by
  intro i s t h
  obtain ⟨rfl, rfl⟩ | ⟨hl, ⟨x, y, rfl, rfl⟩ | ⟨a, b, rfl, rfl⟩ | ⟨a, b, rfl, rfl⟩ | ⟨m, rfl, rfl⟩ | ⟨rfl, rfl⟩ |
    ⟨e, rfl, rfl⟩⟩ := (exec_next_iff i s t).mp h
  case inl => simp [resetEngine_rest]
  all_goals rw [State.live_iff] at hl
  · obtain ⟨-, h⟩ | ⟨-, h⟩ := setDisplayStart_cases true x y s <;> rw [h] <;> simp [State.live_iff, hl]
  · obtain ⟨-, -, h⟩ | ⟨-, h⟩ := setHorizontalRange_cases a b s <;> rw [h] <;> simp [State.live_iff, hl]
  · obtain ⟨-, -, h⟩ | ⟨-, h⟩ := setVerticalRange_cases a b s <;> rw [h] <;> simp [State.live_iff, hl]
  · obtain ⟨-, h⟩ | ⟨-, h⟩ := setMode_cases true m s <;> rw [h] <;> simp [State.live_iff, hl]
  · simp [State.live_iff, hl]
  · simp [State.live_iff, hl]

/-- Every operation that completes leaves a state in which every operation runs. -/
theorem live_of_exec_next {i : Instr} {s t : State} (h : exec i s = .next t) : t.live = true := by
  obtain ⟨-, -, -, -, -, -, -, -, -, -, -, -, hl⟩ := fieldsHaveOnlyTheirWriters i s t h
  exact hl

/-! ### The writes of the store -/

/-- The gate of `SetMode` opens on another byte only, or while the mode holds no value. -/
theorem modeGate_open {m : BitVec 8} {s : State} (h : modeGate true m s = true) :
    s.drawModeValid = false ∨ m ≠ s.ds.drawMode := by
  simpa [modeGate, coldGate] using h

/-- A write of the store by a `Reset` is NTSC and needs an open mode gate and `cfg.autoStd` (R91). -/
theorem resetEngine_store_cases (fires : Bool) (s : State) :
    ((s.resetEngine fires).cfg = s.cfg ∧ (s.resetEngine fires).stdWrites = s.stdWrites) ∨
      (modeGate fires 0#8 s = true ∧ s.cfg.autoStd = true ∧
        (s.resetEngine fires).cfg = { s.cfg with videoStd := .ntsc } ∧
        (s.resetEngine fires).stdWrites = s.stdWrites ++ [.ntsc]) := by
  rw [resetEngine_eq]
  cases hw : modeGate fires 0#8 s && s.cfg.autoStd with
  | false => exact .inl ⟨rfl, rfl⟩
  | true =>
    obtain ⟨hg, ha⟩ := (Bool.and_eq_true _ _).mp hw
    exact .inr ⟨hg, ha, rfl, rfl⟩

/-- A write of the store by a `SetMode` is bit 3 of the byte and needs an open gate and `cfg.autoStd` (R54). -/
theorem setMode_store_cases (fires : Bool) (m : BitVec 8) (s : State) :
    ((s.setMode fires m).cfg = s.cfg ∧ (s.setMode fires m).stdWrites = s.stdWrites) ∨
      (modeGate fires m s = true ∧ s.cfg.autoStd = true ∧
        (s.setMode fires m).cfg = { s.cfg with videoStd := standardOf m[3] } ∧
        (s.setMode fires m).stdWrites = s.stdWrites ++ [standardOf m[3]]) := by
  cases hg : modeGate fires m s with
  | false => exact .inl (by rw [setMode_of_closed hg]; exact ⟨rfl, rfl⟩)
  | true =>
    rw [setMode_of_open hg]
    cases ha : s.cfg.autoStd with
    | false => exact .inl ⟨rfl, rfl⟩
    | true => exact .inr ⟨rfl, rfl, rfl, rfl⟩

/-- Settles O41: only `Reset` and `SetMode` reach the store, each through its mode gate. -/
theorem storeWritesNeedAModeChange : Obligations.StoreWritesNeedAModeChange := by
  intro i s t h
  obtain ⟨rfl, rfl⟩ | ⟨hl, ⟨x, y, rfl, rfl⟩ | ⟨a, b, rfl, rfl⟩ | ⟨a, b, rfl, rfl⟩ | ⟨m, rfl, rfl⟩ | ⟨rfl, rfl⟩ |
    ⟨e, rfl, rfl⟩⟩ := (exec_next_iff i s t).mp h
  case inl =>
    refine (resetEngine_store_cases true s).imp_right fun ⟨hg, ha, hcfg, hw⟩ => ⟨ha, .ntsc, hcfg, hw, .inr ?_⟩
    exact ⟨rfl, rfl, (modeGate_open hg).imp_right Ne.symm⟩
  · left
    obtain ⟨-, h⟩ | ⟨-, h⟩ := setDisplayStart_cases true x y s <;> rw [h] <;> exact ⟨rfl, rfl⟩
  · left
    obtain ⟨-, -, h⟩ | ⟨-, h⟩ := setHorizontalRange_cases a b s <;> rw [h] <;> exact ⟨rfl, rfl⟩
  · left
    obtain ⟨-, -, h⟩ | ⟨-, h⟩ := setVerticalRange_cases a b s <;> rw [h] <;> exact ⟨rfl, rfl⟩
  · refine (setMode_store_cases true m s).imp_right fun ⟨hg, ha, hcfg, hw⟩ =>
      ⟨ha, standardOf m[3], hcfg, hw, .inl ⟨m, rfl, ?_, rfl⟩⟩
    rwa [modeGate_of_live true m hl, bne_iff_ne] at hg
  · exact .inl ⟨rfl, rfl⟩
  · exact .inl ⟨rfl, rfl⟩

end Sys2Proof.Machine
end

section
/-!
PROOF. O19 (40_register_decoder.md R57): an operation repeated on its own answer finds its gate closed, or writes what
stands already.
-/

namespace Sys2Proof.Machine

/-! ### The gates after their own procedure -/

theorem startGate_setDisplayStart (fires : Bool) (x : BitVec 10) (y : BitVec 9) (s : State) :
    startGate fires (maskStartX x) y (s.setDisplayStart fires x y) = false := by
  obtain ⟨hg, h⟩ | ⟨-, h⟩ := setDisplayStart_cases fires x y s <;> rw [h]
  · exact hg
  · exact (startGate_eq_false_iff rfl fires _ y).mpr ⟨rfl, rfl⟩

theorem horizontalGate_eq_false_iff (x1 x2 : BitVec 12) (s : State) :
    horizontalGate x1 x2 s = false ↔ x1 = s.ds.rangeX1 ∧ x2 = s.ds.rangeX2 := by
  simp [horizontalGate]

theorem horizontalGate_setHorizontalRange (x1 x2 : BitVec 12) (s : State) :
    horizontalGate x1 x2 (s.setHorizontalRange x1 x2) = false := by
  obtain ⟨h1, h2, h⟩ | ⟨-, h⟩ := setHorizontalRange_cases x1 x2 s <;> rw [h, horizontalGate_eq_false_iff]
  · exact ⟨h1, h2⟩
  · exact ⟨rfl, rfl⟩

theorem verticalGate_eq_false_iff (y1 y2 : BitVec 10) (s : State) :
    verticalGate y1 y2 s = false ↔ y1 = s.ds.rangeY1 ∧ y2 = s.ds.rangeY2 := by
  simp [verticalGate]

theorem verticalGate_setVerticalRange (y1 y2 : BitVec 10) (s : State) :
    verticalGate y1 y2 (s.setVerticalRange y1 y2) = false := by
  obtain ⟨h1, h2, h⟩ | ⟨-, h⟩ := setVerticalRange_cases y1 y2 s <;> rw [h, verticalGate_eq_false_iff]
  · exact ⟨h1, h2⟩
  · exact ⟨rfl, rfl⟩

theorem modeGate_setMode (fires : Bool) (m : BitVec 8) (s : State) :
    modeGate fires m (s.setMode fires m) = false := by
  cases hg : modeGate fires m s with
  | false => rw [setMode_of_closed hg, hg]
  | true =>
    rw [setMode_of_open hg, modeGate, coldGate_of_valid]
    exact bne_self_eq_false _

/-- The range setters as the identity behind a closed gate. -/
theorem setHorizontalRange_of_closed {x1 x2 : BitVec 12} {s : State} (hg : horizontalGate x1 x2 s = false) :
    s.setHorizontalRange x1 x2 = s := by
  simp [State.setHorizontalRange, hg]

theorem setVerticalRange_of_closed {y1 y2 : BitVec 10} {s : State} (hg : verticalGate y1 y2 s = false) :
    s.setVerticalRange y1 y2 = s := by
  simp [State.setVerticalRange, hg]

/-! ### `Reset` on a state that a `Reset` left -/

/-- What a completed `Reset` has made true of the state. The flags are left out: a closed mode gate leaves them. -/
structure State.IsReset (s : State) : Prop where
  live : s.live = true
  mode : s.ds.drawMode = 0#8
  directWrites : s.ds.writeResetRanges = s.ds
  start : s.ds.start = ⟨0#10, 0#9⟩
  size : s.ds.size = derivedSize s.ds
  sizeN : s.ds.sizeN = normSize s.ds.size s.cfg.smooth

theorem drawMode_of_modeGate_closed {fires : Bool} {m : BitVec 8} {s : State} (h : modeGate fires m s = false) :
    s.ds.drawMode = m := by
  rw [modeGate, coldGate, Bool.or_eq_false_iff] at h
  exact (bne_eq_false_iff_eq.mp h.2).symm

theorem start_of_startGate_closed {fires : Bool} {x : BitVec 10} {y : BitVec 9} {s : State}
    (h : startGate fires x y s = false) : s.ds.start = ⟨x, y⟩ := by
  rw [startGate, coldGate, Bool.or_eq_false_iff, Bool.or_eq_false_iff] at h
  obtain ⟨-, hx, hy⟩ := h
  rw [bne_eq_false_iff_eq.mp hx, bne_eq_false_iff_eq.mp hy]

/-- Each gate has either stored its 0 or found it stored, and the final `UpdateDisplayArea` runs either way. -/
theorem resetEngine_isReset (fires : Bool) (s : State) : (s.resetEngine fires).IsReset := by
  refine ⟨rfl, ?mode, ?directWrites, ?start, rfl, rfl⟩
  case mode =>
    rw [resetEngine_eq]
    cases hg : modeGate fires 0#8 s with
    | false => exact drawMode_of_modeGate_closed (s := s) hg
    | true => rfl
  case directWrites =>
    rw [resetEngine_eq]
    cases modeGate fires 0#8 s <;> rfl
  case start =>
    rw [resetEngine_eq]
    cases hg : startGate fires 0#10 0#9 s with
    | false => exact start_of_startGate_closed (s := s) hg
    | true => rfl

/-- Both gates are closed and the Deriver derives the size that stands. -/
theorem resetEngine_of_isReset {s : State} (h : s.IsReset) (fires : Bool) : s.resetEngine fires = s := by
  obtain ⟨hl, hmode, hwrites, hstart, hsize, hsizeN⟩ := h
  have hmode' : ¬(s.ds.drawMode ≠ 0#8 ∧ s.cfg.autoStd = true) := fun hne => hne.1 hmode
  rw [resetEngine_of_live hl, resetRegisters_of_mode_zero hmode, hwrites, if_neg hmode', if_neg hmode',
    if_neg (not_not.mpr hstart), ← hsize, ← hsizeN, ← hstart]

/-! ### Every operation -/

/-- On a live state a setter with a closed gate answers the state itself. -/
theorem exec_setDisplayStart_of_closed {s : State} (hl : s.live = true) {x : BitVec 10} {y : BitVec 9}
    (hg : startGate true (maskStartX x) y s = false) : exec (.setDisplayStart x y) s = .next s := by
  rw [exec_setDisplayStart_of_live hl, config_coldGatesFire, setDisplayStart_of_closed hg]

theorem exec_setHorizontalRange_of_closed {s : State} (hl : s.live = true) {a b : BitVec 12}
    (hg : horizontalGate a b s = false) : exec (.setHorizontalRange a b) s = .next s := by
  rw [exec_setHorizontalRange_of_live hl, setHorizontalRange_of_closed hg]

theorem exec_setVerticalRange_of_closed {s : State} (hl : s.live = true) {a b : BitVec 10}
    (hg : verticalGate a b s = false) : exec (.setVerticalRange a b) s = .next s := by
  rw [exec_setVerticalRange_of_live hl, setVerticalRange_of_closed hg]

theorem exec_setMode_of_closed {s : State} (hl : s.live = true) {m : BitVec 8}
    (hg : modeGate true m s = false) : exec (.setMode m) s = .next s := by
  rw [exec_setMode_of_live hl, config_coldGatesFire, setMode_of_closed hg]

/-- R57 for the setters: no gate reads an input of the store, so the repeated setter finds its gate closed under any
inputs. -/
theorem setter_repeated {i : Instr} {s t : State} (h : exec i s = .next t)
    (hi : (∃ x y, i = .setDisplayStart x y) ∨ (∃ a b, i = .setHorizontalRange a b) ∨
      (∃ a b, i = .setVerticalRange a b) ∨ (∃ m, i = .setMode m)) (cfg : ConfigStore) :
    exec i { t with cfg := cfg } = .next { t with cfg := cfg } := by
  have ht : t.live = true := live_of_exec_next h
  have hl : State.live { t with cfg := cfg } = true := ht
  obtain ⟨x, y, rfl⟩ | ⟨a, b, rfl⟩ | ⟨a, b, rfl⟩ | ⟨m, rfl⟩ := hi <;>
    obtain ⟨-, rfl⟩ := (whenLive_next_iff _ s t).mp h
  · exact exec_setDisplayStart_of_closed hl (startGate_setDisplayStart true x y s)
  · exact exec_setHorizontalRange_of_closed hl (horizontalGate_setHorizontalRange a b s)
  · exact exec_setVerticalRange_of_closed hl (verticalGate_setVerticalRange a b s)
  · exact exec_setMode_of_closed hl (modeGate_setMode true m s)

/-- R57 for every operation with unchanged inputs. -/
theorem exec_repeated {i : Instr} {s t : State} (h : exec i s = .next t) : exec i t = .next t := by
  have hl : t.live = true := live_of_exec_next h
  cases i with
  | reset =>
    cases h
    rw [exec_reset, resetEngine_of_isReset (resetEngine_isReset _ s)]
  | setDisplayStart x y => exact setter_repeated h (.inl ⟨x, y, rfl⟩) t.cfg
  | setHorizontalRange a b => exact setter_repeated h (.inr (.inl ⟨a, b, rfl⟩)) t.cfg
  | setVerticalRange a b => exact setter_repeated h (.inr (.inr (.inl ⟨a, b, rfl⟩))) t.cfg
  | setMode m => exact setter_repeated h (.inr (.inr (.inr ⟨m, rfl⟩))) t.cfg
  | refreshSmoothingAdjustment =>
    obtain ⟨-, rfl⟩ := (whenLive_next_iff (fun s => s.normalizeStart.normalizeSize) s t).mp h
    exact exec_refreshSmoothingAdjustment_of_live hl
  | writeEnabled e =>
    obtain ⟨-, rfl⟩ := (whenLive_next_iff (fun s => { s with ds := { s.ds with enabled := e } }) s t).mp h
    exact writeEnabledWritesOnlyEnabled _ e hl
  | reserved7 => cases h

/-- Settles O19: the repeated operation, and the setters under changed inputs. -/
theorem operationsAreIdempotent : Obligations.OperationsAreIdempotent :=
  fun _ _ _ h => ⟨exec_repeated h, fun hi _ _ => setter_repeated h hi _⟩

end Sys2Proof.Machine
end

section
/-!
PROOF. O43, O44 and O46 (10_state.md R23 to R25; 60_exceptions.md R80; 70_reset_and_hazards.md R97): an operation on a
state whose configuration store was changed beforehand, compared with the operation on the state itself.
-/

namespace Sys2Proof.Machine

/-- The open gate of `SetMode` with the store written out by item: the two inputs stand. -/
theorem setMode_of_open_items {fires : Bool} {m : BitVec 8} {s : State} (hg : modeGate fires m s = true) :
    s.setMode fires m =
      { s with
        ds := (s.ds.writeMode m).updateDisplayArea s.cfg.smooth
        drawModeValid := true
        cfg := { s.cfg with videoStd := if s.cfg.autoStd then standardOf m[3] else s.cfg.videoStd }
        stdWrites := if s.cfg.autoStd then s.stdWrites ++ [standardOf m[3]] else s.stdWrites } := by
  rw [setMode_of_open hg, written_store]

/-! ### `UpdateDisplayArea` and the normalizers, as functions of `DS` -/

/-- Both normalizers in a row, as the refresh runs them (R71). -/
def DisplayState.normalize (smooth : Bool) (d : DisplayState) : DisplayState :=
  { d with startN := normStart d.start smooth, sizeN := normSize d.size smooth }

theorem updateDisplayArea_eq (smooth : Bool) (d : DisplayState) :
    d.updateDisplayArea smooth = { d with size := derivedSize d, sizeN := normSize (derivedSize d) smooth } := rfl

/-- The Deriver does not read the pairs. -/
theorem derivedSize_writeMode_normalize (smooth : Bool) (m : BitVec 8) (d : DisplayState) :
    derivedSize ((d.normalize smooth).writeMode m) = derivedSize (d.writeMode m) :=
  derivedSize_congr rfl rfl rfl rfl rfl rfl rfl

/-- A mode stored before or after the normalizers, under one flag. -/
theorem updateDisplayArea_writeMode_normalize (smooth : Bool) (m : BitVec 8) (d : DisplayState) :
    ((d.normalize smooth).writeMode m).updateDisplayArea smooth =
      ((d.writeMode m).updateDisplayArea smooth).normalize smooth := by
  rw [updateDisplayArea_eq, updateDisplayArea_eq, derivedSize_writeMode_normalize]
  generalize derivedSize (d.writeMode m) = z
  simp only [DisplayState.normalize]
  generalize normSize z smooth = n
  rfl

/-- The normalizers overwrite the size pair of an `UpdateDisplayArea`, whatever flag it sampled. -/
theorem normalize_updateDisplayArea (a b : Bool) (d : DisplayState) :
    (d.updateDisplayArea a).normalize b = (d.updateDisplayArea b).normalize b := by
  rw [updateDisplayArea_eq, updateDisplayArea_eq]
  generalize derivedSize d = z
  simp only [DisplayState.normalize]

/-- The flag an `UpdateDisplayArea` samples shows in the size pair only. -/
theorem updateDisplayArea_but_pairs (a b : Bool) (d : DisplayState) :
    { d.updateDisplayArea b with startN := (d.updateDisplayArea a).startN, sizeN := (d.updateDisplayArea a).sizeN } =
      d.updateDisplayArea a := by
  rw [updateDisplayArea_eq, updateDisplayArea_eq]

/-- The flag the normalizers sample shows in the pairs only. -/
theorem normalize_but_pairs (a b : Bool) (d : DisplayState) :
    { d.normalize b with startN := (d.normalize a).startN, sizeN := (d.normalize a).sizeN } = d.normalize a := by
  simp only [DisplayState.normalize]

/-- The refresh as one function of the state. -/
def State.refresh (s : State) : State := s.normalizeStart.normalizeSize

theorem refresh_eq (s : State) : s.refresh = { s with ds := s.ds.normalize s.cfg.smooth } := rfl

/-- The guard sees the marks only, so a guarded operation runs on a state with the same marks too. -/
theorem whenLive_next_of_live_eq {op : State → State} {s s' t : State} (hlive : s'.live = s.live)
    (h : whenLive op s = .next t) : t = op s ∧ whenLive op s' = .next (op s') := by
  obtain ⟨hl, ht⟩ := (whenLive_next_iff op s t).mp h
  exact ⟨ht, whenLive_of_live (hlive.trans hl)⟩

/-! ### `cfg.videoStd` and `cfg.autoStd` -/

/-- The state with another standard in the store and another `cfg.autoStd`. -/
def State.withStandard (v : VideoStd) (a : Bool) (s : State) : State :=
  { s with cfg := { s.cfg with videoStd := v, autoStd := a } }

/-- The answer `u` has the `DS` of `t`, and its writes of the store too when `cfg.autoStd` was not changed. -/
def SameGeometry (autoStdKept : Prop) (u t : State) : Prop := u.ds = t.ds ∧ (autoStdKept → u.stdWrites = t.stdWrites)

section withStandard

variable (fires : Bool) (v : VideoStd) (a : Bool) (s : State)

theorem setDisplayStart_withStandard (x : BitVec 10) (y : BitVec 9) :
    (s.withStandard v a).setDisplayStart fires x y = (s.setDisplayStart fires x y).withStandard v a := by
  have hg : startGate fires (maskStartX x) y (s.withStandard v a) = startGate fires (maskStartX x) y s := rfl
  simp only [State.setDisplayStart, hg]
  split <;> rfl

theorem setHorizontalRange_withStandard (x1 x2 : BitVec 12) :
    (s.withStandard v a).setHorizontalRange x1 x2 = (s.setHorizontalRange x1 x2).withStandard v a := by
  have hg : horizontalGate x1 x2 (s.withStandard v a) = horizontalGate x1 x2 s := rfl
  simp only [State.setHorizontalRange, hg]
  split <;> rfl

theorem setVerticalRange_withStandard (y1 y2 : BitVec 10) :
    (s.withStandard v a).setVerticalRange y1 y2 = (s.setVerticalRange y1 y2).withStandard v a := by
  have hg : verticalGate y1 y2 (s.withStandard v a) = verticalGate y1 y2 s := rfl
  simp only [State.setVerticalRange, hg]
  split <;> rfl

theorem setMode_withStandard (m : BitVec 8) :
    SameGeometry (a = s.cfg.autoStd) ((s.withStandard v a).setMode fires m) (s.setMode fires m) := by
  cases hg : modeGate fires m s with
  | false =>
    rw [setMode_of_closed hg, setMode_of_closed (s := s.withStandard v a) hg]
    exact ⟨rfl, fun _ => rfl⟩
  | true =>
    rw [setMode_of_open hg, setMode_of_open (s := s.withStandard v a) hg]
    refine ⟨rfl, ?_⟩
    rintro rfl
    rfl

theorem resetEngine_withStandard :
    SameGeometry (a = s.cfg.autoStd) ((s.withStandard v a).resetEngine fires) (s.resetEngine fires) := by
  rw [resetEngine_eq, resetEngine_eq]
  refine ⟨rfl, ?_⟩
  rintro rfl
  rfl

end withStandard

/-- Changing the two items of an answer changes neither its `DS` nor its writes. -/
theorem sameGeometry_withStandard (kept : Prop) (v : VideoStd) (a : Bool) (t : State) :
    SameGeometry kept (t.withStandard v a) t := ⟨rfl, fun _ => rfl⟩

/-- Settles O43: operation by operation; no gate and no step of the Deriver reads either item. -/
theorem geometryIgnoresTheStoresStandard : Obligations.GeometryIgnoresTheStoresStandard := by
  intro i s t v a h
  have hlive : (s.withStandard v a).live = s.live := rfl
  cases i with
  | reset =>
    cases h
    exact ⟨_, rfl, resetEngine_withStandard _ v a s⟩
  | setDisplayStart x y =>
    obtain ⟨rfl, hu⟩ := whenLive_next_of_live_eq hlive h
    exact ⟨_, hu, setDisplayStart_withStandard _ v a s x y ▸ sameGeometry_withStandard _ v a _⟩
  | setHorizontalRange x1 x2 =>
    obtain ⟨rfl, hu⟩ := whenLive_next_of_live_eq hlive h
    exact ⟨_, hu, setHorizontalRange_withStandard v a s x1 x2 ▸ sameGeometry_withStandard _ v a _⟩
  | setVerticalRange y1 y2 =>
    obtain ⟨rfl, hu⟩ := whenLive_next_of_live_eq hlive h
    exact ⟨_, hu, setVerticalRange_withStandard v a s y1 y2 ▸ sameGeometry_withStandard _ v a _⟩
  | setMode m =>
    obtain ⟨rfl, hu⟩ := whenLive_next_of_live_eq hlive h
    exact ⟨_, hu, setMode_withStandard _ v a s m⟩
  | refreshSmoothingAdjustment =>
    obtain ⟨rfl, hu⟩ := whenLive_next_of_live_eq (op := State.refresh) hlive h
    exact ⟨_, hu, rfl, fun _ => rfl⟩
  | writeEnabled e =>
    obtain ⟨rfl, hu⟩ :=
      whenLive_next_of_live_eq (op := fun s => { s with ds := { s.ds with enabled := e } }) hlive h
    exact ⟨_, hu, rfl, fun _ => rfl⟩
  | reserved7 => cases h

/-! ### `cfg.smooth` -/

/-- The answer `u` differs from `t` in the two normalized pairs and in `cfg.smooth` at most. -/
def SameButPairs (u t : State) : Prop :=
  { u.ds with startN := t.ds.startN, sizeN := t.ds.sizeN } = t.ds ∧ u.stdWrites = t.stdWrites ∧
    u.cfg.videoStd = t.cfg.videoStd

section driveSmooth

variable (fires : Bool) (b : Bool) (s : State)

theorem setDisplayStart_driveSmooth (x : BitVec 10) (y : BitVec 9) :
    SameButPairs ((s.driveSmooth b).setDisplayStart fires x y) (s.setDisplayStart fires x y) := by
  have hg : startGate fires (maskStartX x) y (s.driveSmooth b) = startGate fires (maskStartX x) y s := rfl
  simp only [State.setDisplayStart, hg]
  split <;> exact ⟨rfl, rfl, rfl⟩

theorem setHorizontalRange_driveSmooth (x1 x2 : BitVec 12) :
    SameButPairs ((s.driveSmooth b).setHorizontalRange x1 x2) (s.setHorizontalRange x1 x2) := by
  have hg : horizontalGate x1 x2 (s.driveSmooth b) = horizontalGate x1 x2 s := rfl
  simp only [State.setHorizontalRange, hg]
  split <;> exact ⟨rfl, rfl, rfl⟩

theorem setVerticalRange_driveSmooth (y1 y2 : BitVec 10) :
    SameButPairs ((s.driveSmooth b).setVerticalRange y1 y2) (s.setVerticalRange y1 y2) := by
  have hg : verticalGate y1 y2 (s.driveSmooth b) = verticalGate y1 y2 s := rfl
  simp only [State.setVerticalRange, hg]
  split <;> exact ⟨rfl, rfl, rfl⟩

theorem setMode_driveSmooth (m : BitVec 8) :
    SameButPairs ((s.driveSmooth b).setMode fires m) (s.setMode fires m) := by
  cases hg : modeGate fires m s with
  | false =>
    rw [setMode_of_closed hg, setMode_of_closed (s := s.driveSmooth b) hg]
    exact ⟨rfl, rfl, rfl⟩
  | true =>
    rw [setMode_of_open_items hg, setMode_of_open_items (s := s.driveSmooth b) hg]
    exact ⟨updateDisplayArea_but_pairs s.cfg.smooth b (s.ds.writeMode m), rfl, rfl⟩

theorem resetEngine_driveSmooth :
    SameButPairs ((s.driveSmooth b).resetEngine fires) (s.resetEngine fires) := by
  refine ⟨?_, ?_, ?_⟩
  · rw [resetEngine_eq, resetEngine_eq]
    rfl
  · rw [resetEngine_eq, resetEngine_eq]
    rfl
  · rw [resetEngine_cfg, resetEngine_cfg]
    rfl

theorem refresh_driveSmooth : SameButPairs (s.driveSmooth b).refresh s.refresh := by
  rw [refresh_eq, refresh_eq]
  exact ⟨normalize_but_pairs s.cfg.smooth b s.ds, rfl, rfl⟩

end driveSmooth

/-- Settles O44: operation by operation; `cfg.smooth` is sampled by the two normalizers only. -/
theorem smoothingReachesOnlyTheNormalizedPairs : Obligations.SmoothingReachesOnlyTheNormalizedPairs := by
  intro i s t b h
  have hlive : (s.driveSmooth b).live = s.live := rfl
  cases i with
  | reset =>
    cases h
    exact ⟨_, rfl, resetEngine_driveSmooth _ b s⟩
  | setDisplayStart x y =>
    obtain ⟨rfl, hu⟩ := whenLive_next_of_live_eq hlive h
    exact ⟨_, hu, setDisplayStart_driveSmooth _ b s x y⟩
  | setHorizontalRange x1 x2 =>
    obtain ⟨rfl, hu⟩ := whenLive_next_of_live_eq hlive h
    exact ⟨_, hu, setHorizontalRange_driveSmooth b s x1 x2⟩
  | setVerticalRange y1 y2 =>
    obtain ⟨rfl, hu⟩ := whenLive_next_of_live_eq hlive h
    exact ⟨_, hu, setVerticalRange_driveSmooth b s y1 y2⟩
  | setMode m =>
    obtain ⟨rfl, hu⟩ := whenLive_next_of_live_eq hlive h
    exact ⟨_, hu, setMode_driveSmooth _ b s m⟩
  | refreshSmoothingAdjustment =>
    obtain ⟨rfl, hu⟩ := whenLive_next_of_live_eq (op := State.refresh) hlive h
    exact ⟨_, hu, refresh_driveSmooth b s⟩
  | writeEnabled e =>
    obtain ⟨rfl, hu⟩ :=
      whenLive_next_of_live_eq (op := fun s => { s with ds := { s.ds with enabled := e } }) hlive h
    exact ⟨_, hu, rfl, rfl, rfl⟩
  | reserved7 => cases h

/-! ### A mode write and a toggle in either order -/

/-- The state with other host actions left. -/
def State.withScript (script : List HostAction) (s : State) : State := { s with script := script }

theorem setMode_withScript (fires : Bool) (m : BitVec 8) (script : List HostAction) (s : State) :
    (s.withScript script).setMode fires m = (s.setMode fires m).withScript script := by
  cases hg : modeGate fires m s with
  | false => rw [setMode_of_closed hg, setMode_of_closed (s := s.withScript script) hg]
  | true =>
    rw [setMode_of_open hg, setMode_of_open (s := s.withScript script) hg]
    rfl

/-- A mode write and the refresh commute: an open gate computes the size pair under the same flag. -/
theorem setMode_refresh (fires : Bool) (m : BitVec 8) (s : State) :
    s.refresh.setMode fires m = (s.setMode fires m).refresh := by
  cases hg : modeGate fires m s with
  | false => rw [setMode_of_closed hg, setMode_of_closed (s := s.refresh) hg]
  | true =>
    rw [setMode_of_open_items hg, setMode_of_open_items (s := s.refresh) hg]
    simp only [refresh_eq, updateDisplayArea_writeMode_normalize]
    rfl

/-- A refresh after a toggle makes up for the flag under which the mode was written. -/
theorem refresh_driveSmooth_setMode (fires : Bool) (m : BitVec 8) (b : Bool) (s : State) :
    ((s.setMode fires m).driveSmooth b).refresh = ((s.driveSmooth b).setMode fires m).refresh := by
  cases hg : modeGate fires m s with
  | false => rw [setMode_of_closed hg, setMode_of_closed (s := s.driveSmooth b) hg]
  | true =>
    rw [setMode_of_open_items hg, setMode_of_open_items (s := s.driveSmooth b) hg]
    simp only [refresh_eq, State.driveSmooth]
    rw [normalize_updateDisplayArea s.cfg.smooth b]
    rfl

/-! ### The steps of the three runs -/

theorem run_succ {s t : State} (k : Nat) (h : step s = .next t) :
    Host.Core.run core (k + 1) s = Host.Core.run core k t := by
  simp only [Host.Core.run, core, h]

theorem step_toggle (b : Bool) (rest : List HostAction) (s : State) :
    step (s.withScript (.setSmooth b :: rest)) = .next ((s.driveSmooth b).withScript rest) := rfl

theorem step_refresh {s : State} (hl : s.live = true) (rest : List HostAction) :
    step (s.withScript (.transact (transaction 5 0) :: rest)) = .next (s.refresh.withScript rest) := by
  rw [step_of_transact rfl, decode_select5]
  exact exec_refreshSmoothingAdjustment_of_live (s := s.withScript rest) hl

theorem step_modeWrite {s : State} (hl : s.live = true) (w : Command) (rest : List HostAction) :
    step (s.withScript (.transact (transaction 4 w) :: rest)) =
      .next ((s.setMode config.coldGatesFire (newModeField w)).withScript rest) := by
  rw [step_of_transact rfl, decode_select4, ← setMode_withScript]
  exact exec_setMode_of_live (s := s.withScript rest) hl _

theorem setMode_live {s : State} (hl : s.live = true) (fires : Bool) (m : BitVec 8) :
    (s.setMode fires m).live = true := by
  obtain ⟨-, h⟩ | ⟨-, h⟩ := setMode_cases fires m s <;> rw [h]
  · exact hl
  · simpa [State.live_iff] using (marks_of_live hl).2

/-- Settles O46: the three runs step by step; their ends are equal by the two commutations. -/
theorem modeWriteAndToggleCommute : Obligations.ModeWriteAndToggleCommute := by
  intro s w b hl
  have hset := setMode_live hl config.coldGatesFire (newModeField w)
  have hset' := setMode_live (s := s.driveSmooth b) hl config.coldGatesFire (newModeField w)
  refine ⟨((s.driveSmooth b).refresh.setMode config.coldGatesFire (newModeField w)).withScript [], ?_, ?_, ?_⟩
  · exact (run_succ 2 (step_toggle b _ s)).trans <| (run_succ 1 (step_refresh (s := s.driveSmooth b) hl _)).trans <|
      run_succ 0 (step_modeWrite (s := (s.driveSmooth b).refresh) hl w [])
  · rw [setMode_refresh]
    exact (run_succ 2 (step_toggle b _ s)).trans <| (run_succ 1 (step_modeWrite (s := s.driveSmooth b) hl w _)).trans <|
      run_succ 0 (step_refresh hset' [])
  · rw [setMode_refresh, ← refresh_driveSmooth_setMode]
    exact (run_succ 2 (step_modeWrite hl w _)).trans <| (run_succ 1 (step_toggle b _ _)).trans <|
      run_succ 0 (step_refresh (s := State.driveSmooth b _) hset [])

end Sys2Proof.Machine
end

section
/-!
PROOF. O23 to O25 and O27 (41_geometry_deriver.md R60 to R65, R73, R74): the derived width and height with the
document's literals, the heights of an inverted range, and the greatest width and height with the registers that reach
them.
-/

namespace Sys2Proof.Machine

/-! ### The constants of the two standards -/

theorem cyclesPerScanline_eq (isPal : Bool) :
    (standard isPal).cyclesPerScanline = if isPal then 3406 else 3413 := by
  cases isPal <;> rfl

theorem totalScanlines_eq (isPal : Bool) : (standard isPal).totalScanlines = if isPal then 314 else 263 := by
  cases isPal <;> rfl

/-! ### The width -/

/-- The width with the document's literals: 2 added, then down to a multiple of 4 (R65). -/
theorem pixelWidth_eq (span div : Nat) : pixelWidth span div = (span / div + 2) - (span / div + 2) % 4 := rfl

theorem derivedWidth_eq (d : DisplayState) :
    derivedWidth d =
      pixelWidth
        (spanOf (roundedX d.rangeX1.toNat (if d.isPal then 3406 else 3413) (divider d.drawMode))
          (roundedX d.rangeX2.toNat (if d.isPal then 3406 else 3413) (divider d.drawMode)))
        (divider d.drawMode) := by
  rw [derivedWidth, cyclesPerScanline_eq]

theorem spanOf_eq_max (rx1 rx2 : Nat) : (spanOf rx1 rx2 : Int) = max 0 ((rx2 : Int) - rx1) := by
  rw [spanOf]
  omega

/-- The alignment takes at most 3 of the quotient and the 2 added away. -/
theorem pixelWidth_bounds (span div : Nat) :
    4 ∣ pixelWidth span div ∧ pixelWidth span div ≤ span / div + 2 ∧ span / div ≤ pixelWidth span div + 1 := by
  refine ⟨dvd_pixelWidth span div, ?_⟩
  rw [pixelWidth_eq]
  generalize span / div = q
  omega

/-- Settles O23: the span of the two rounded ends, and the bounds of its aligned quotient. -/
theorem widthIsTheAlignedSpan : Obligations.WidthIsTheAlignedSpan := by
  intro d cycles rx1 rx2 span q
  have hspan : divider d.drawMode ∣ span := dvd_spanOf (dvd_roundedX _ _ _) (dvd_roundedX _ _ _)
  have hwidth : derivedWidth d = pixelWidth span (divider d.drawMode) := derivedWidth_eq d
  rw [hwidth]
  exact ⟨spanOf_eq_max rx1 rx2, hspan, rfl, pixelWidth_bounds span _⟩

/-! ### The height -/

/-- `NEG_HEIGHT` at its default (D10, log entry 7). -/
theorem config_negHeight : config.negHeight = .zero := rfl

theorem derivedHeight_eq (d : DisplayState) :
    derivedHeight d =
      interlaced d.isInterlaced
        (frameHeight .zero (if d.isPal then 314 else 263) (min d.rangeY1.toNat (if d.isPal then 314 else 263))
          (min d.rangeY2.toNat (if d.isPal then 314 else 263))) := by
  rw [derivedHeight, totalScanlines_eq, config_negHeight]
  rfl

/-- The three readings of an inverted clamped range (D10, U1). -/
theorem frameHeight_of_lt {lines cy1 cy2 : Nat} (h : cy2 < cy1) :
    frameHeight .zero lines cy1 cy2 = 0 ∧ frameHeight .full lines cy1 cy2 = lines ∧
      frameHeight .negative lines cy1 cy2 = (cy2 : Int) - cy1 := by
  refine ⟨?_, if_pos h, ?_⟩ <;> simp only [frameHeight] <;> omega

/-- Settles O25: the upper end is at most `lines`, so the `min` never cuts. -/
theorem negHeightReadingsDifferOnlyWhenInverted : Obligations.NegHeightReadingsDifferOnlyWhenInverted := by
  intro lines y1 y2 cy1 cy2
  have h2 : cy2 ≤ lines := min_le_right _ _
  exact ⟨fun hle r => frameHeight_of_le r hle h2, fun hlt => frameHeight_of_lt hlt⟩

theorem interlaced_eq_mul (il : Bool) (height : Int) : interlaced il height = (if il then 2 else 1) * height := by
  cases il with
  | false => exact (one_mul height).symm
  | true => exact mul_comm height 2

theorem interlaced_zero (il : Bool) : interlaced il 0 = 0 := by
  cases il <;> rfl

/-- Settles O24: the frame's height in both cases, then the doubling. -/
theorem heightIsTheClampedDifference : Obligations.HeightIsTheClampedDifference := by
  intro d lines cy1 cy2
  have hheight : derivedHeight d = interlaced d.isInterlaced (frameHeight .zero lines cy1 cy2) := derivedHeight_eq d
  have h2 : cy2 ≤ lines := min_le_right _ _
  rw [hheight]
  refine ⟨fun hlt => ?_, fun hle => ?_⟩
  · rw [(frameHeight_of_lt hlt).1, interlaced_zero]
  · rw [frameHeight_of_le _ hle h2, interlaced_eq_mul]

/-! ### The greatest width and height -/

/-- The greatest width of a divider and a standard (the table of R73). -/
def widestWidth (isPal : Bool) (div : Nat) : Nat :=
  match div with
  | 10 => 340
  | 8 => if isPal then 424 else 428
  | 7 => 488
  | 5 => if isPal then 680 else 684
  | _ => 852

theorem divider_cases (m : BitVec 8) :
    divider m = 10 ∨ divider m = 8 ∨ divider m = 7 ∨ divider m = 5 ∨ divider m = 4 := by
  simpa using divider_mem m

/-- The table row by row: the width of the whole line. -/
theorem pixelWidth_line (isPal : Bool) (m : BitVec 8) :
    pixelWidth (if isPal then 3406 else 3413) (divider m) = widestWidth isPal (divider m) := by
  obtain h | h | h | h | h := divider_cases m <;> rw [h] <;> cases isPal <;> rfl

theorem widestWidth_le (isPal : Bool) (m : BitVec 8) : widestWidth isPal (divider m) ≤ 852 := by
  obtain h | h | h | h | h := divider_cases m <;> rw [h] <;> cases isPal <;> decide

/-- The width grows with the quotient. -/
theorem pixelWidth_mono {span span' div : Nat} (h : span / div ≤ span' / div) :
    pixelWidth span div ≤ pixelWidth span' div := by
  rw [pixelWidth_eq, pixelWidth_eq]
  omega

/-- A span of the line is at most the line, in dots. -/
theorem derivedWidth_le_widest (d : DisplayState) : derivedWidth d ≤ widestWidth d.isPal (divider d.drawMode) := by
  rw [derivedWidth_eq, ← pixelWidth_line]
  exact pixelWidth_mono (Nat.div_le_div_right (spanOf_roundedX_le _ _ _ _))

/-- A range from 0 to the end of the line or beyond spans every dot of the line. -/
theorem spanOf_roundedX_full {x2 cycles div : Nat} (h : cycles ≤ x2) :
    spanOf (roundedX 0 cycles div) (roundedX x2 cycles div) = cycles / div * div := by
  rw [spanOf, roundedX, roundedX, Nat.zero_min, min_eq_right h, Nat.zero_div, Nat.zero_mul, Nat.sub_zero]

theorem derivedWidth_of_full {d : DisplayState} (h1 : d.rangeX1 = 0#12)
    (h2 : (if d.isPal then 3406 else 3413) ≤ d.rangeX2.toNat) :
    derivedWidth d = widestWidth d.isPal (divider d.drawMode) := by
  rw [derivedWidth_eq, h1, BitVec.toNat_ofNat, Nat.zero_mod, spanOf_roundedX_full h2, ← pixelWidth_line, pixelWidth_eq,
    pixelWidth_eq, Nat.mul_div_cancel _ (divider_pos _)]

/-- The tallest frame of a standard, doubled when interlaced. -/
theorem interlaced_lines (il : Bool) (lines : Nat) :
    interlaced il lines = if il then 2 * (lines : Int) else lines := by
  cases il with
  | false => rfl
  | true => exact mul_comm _ _

theorem two_dvd_derivedHeight {d : DisplayState} (h : d.isInterlaced = true) : 2 ∣ derivedHeight d := by
  rw [derivedHeight_eq, h, interlaced_true]
  exact Dvd.intro_left _ rfl

/-- A range from 0 to the last line or beyond gives every line. -/
theorem derivedHeight_of_full {d : DisplayState} (h1 : d.rangeY1 = 0#10)
    (h2 : (if d.isPal then 314 else 263) ≤ d.rangeY2.toNat) :
    derivedHeight d = interlaced d.isInterlaced (if d.isPal then 314 else 263 : Nat) := by
  rw [derivedHeight_eq, h1, BitVec.toNat_ofNat, Nat.zero_mod, Nat.zero_min, min_eq_right h2,
    frameHeight_of_le _ (Nat.zero_le _) le_rfl, Nat.cast_zero, sub_zero]

/-- In a state between operations the stored size is within 852 by 628 (R19, R74). -/
theorem size_bounds_of_derived {d : DisplayState} (h : SizeDerived d) :
    4 ∣ d.size.w.toNat ∧ d.size.w.toNat ≤ 852 ∧ d.size.h.toNat ≤ 628 := by
  have hw : d.size.w.toNat = derivedWidth d := by rw [h, derivedSize_w_toNat]
  have hh : (d.size.h.toNat : Int) = derivedHeight d := by rw [h, derivedSize_h_toNat]
  have hheight := (derivedHeight_bounds d).2
  have hlines := totalScanlines_le d.isPal
  rw [hw]
  refine ⟨dvd_pixelWidth _ _, (derivedWidth_le_widest d).trans (widestWidth_le _ _), ?_⟩
  rw [interlaced_lines] at hheight
  split at hheight <;> omega

/-- Settles O27: the width against the table, the height against the lines, and the stored size. -/
theorem sizeBoundsAreReached : Obligations.SizeBoundsAreReached := by
  refine ⟨fun d => ⟨derivedWidth_le_widest d, derivedWidth_of_full⟩, fun d => ?_, fun s hinv hl => ?_⟩
  · intro lines tallest
    have htallest : interlaced d.isInterlaced lines = tallest := interlaced_lines _ _
    obtain ⟨h0, hle⟩ := derivedHeight_bounds d
    rw [totalScanlines_eq] at hle
    rw [← htallest]
    exact ⟨h0, hle, two_dvd_derivedHeight, derivedHeight_of_full⟩
  · obtain ⟨-, -, hsize, -⟩ := hinv.2 hl
    exact size_bounds_of_derived hsize

end Sys2Proof.Machine
end

section
/-!
PROOF. O47 to O49 (10_state.md R12, R17, R18, R20, R21; 70_reset_and_hazards.md R89, R93). One invariant of `DS`, over a
set `B` of values of `cfg.smooth` under which the pairs may have been computed: with all values it is `Inv`'s, with the
present value alone it adds `Consistent`. Every operation that samples a value of `B` keeps it.
-/

namespace Sys2Proof.Machine

/-! ### The invariant of `DS` -/

/-- Each normalized pair was computed from the stored start or size under some value of `B`. -/
def PairsFrom (B : Bool → Prop) (d : DisplayState) : Prop :=
  (∃ b, B b ∧ d.startN = normStart d.start b) ∧ ∃ b, B b ∧ d.sizeN = normSize d.size b

/-- What holds of `DS` between operations, the pairs computed under values of `B`. -/
def Settled (B : Bool → Prop) (d : DisplayState) : Prop :=
  FlagsAgree d ∧ StartEven d ∧ SizeDerived d ∧ PairsFrom B d

theorem pairsFrom_any_iff (d : DisplayState) : PairsFrom (fun _ => True) d ↔ NormalizedFromStored d := by
  simp only [PairsFrom, true_and, Bool.exists_bool]

theorem settled_any_iff (d : DisplayState) :
    Settled (fun _ => True) d ↔ FlagsAgree d ∧ StartEven d ∧ SizeDerived d ∧ NormalizedFromStored d := by
  rw [Settled, pairsFrom_any_iff]

theorem pairsFrom_eq_iff (b : Bool) (d : DisplayState) :
    PairsFrom (· = b) d ↔ d.startN = normStart d.start b ∧ d.sizeN = normSize d.size b := by
  simp only [PairsFrom, exists_eq_left]

/-! ### The procedures keep it -/

section procedures

variable {B : Bool → Prop} {s : State} (hB : B s.cfg.smooth)

include hB in
/-- `UpdateDisplayArea` establishes the size and its pair, whatever they were. -/
theorem settled_updateDisplayArea {d : DisplayState} (hflags : FlagsAgree d) (heven : StartEven d)
    (hstart : ∃ b, B b ∧ d.startN = normStart d.start b) : Settled B (d.updateDisplayArea s.cfg.smooth) :=
  ⟨hflags, heven, (derivedSize_updateDisplayArea _ d).symm, hstart, s.cfg.smooth, hB, rfl⟩

/-- The stored start has bit 0 clear (R17). -/
theorem maskStartX_even (x : BitVec 10) : (maskStartX x)[0] = false := by
  simp [maskStartX]

include hB in
theorem settled_setDisplayStart (fires : Bool) (x : BitVec 10) (y : BitVec 9) (h : Settled B s.ds) :
    Settled B (s.setDisplayStart fires x y).ds := by
  obtain ⟨-, e⟩ | ⟨-, e⟩ := setDisplayStart_cases fires x y s <;> rw [e]
  · exact h
  · obtain ⟨hflags, -, hsize, -, hsizeN⟩ := h
    exact ⟨hflags, maskStartX_even x, hsize.trans (derivedSize_congr rfl rfl rfl rfl rfl rfl rfl),
      ⟨s.cfg.smooth, hB, rfl⟩, hsizeN⟩

include hB in
theorem settled_setHorizontalRange (x1 x2 : BitVec 12) (h : Settled B s.ds) :
    Settled B (s.setHorizontalRange x1 x2).ds := by
  obtain ⟨-, -, e⟩ | ⟨-, e⟩ := setHorizontalRange_cases x1 x2 s <;> rw [e]
  · exact h
  · obtain ⟨hflags, heven, -, hstart, -⟩ := h
    exact settled_updateDisplayArea (d := { s.ds with rangeX1 := x1, rangeX2 := x2 }) hB hflags heven hstart

include hB in
theorem settled_setVerticalRange (y1 y2 : BitVec 10) (h : Settled B s.ds) :
    Settled B (s.setVerticalRange y1 y2).ds := by
  obtain ⟨-, -, e⟩ | ⟨-, e⟩ := setVerticalRange_cases y1 y2 s <;> rw [e]
  · exact h
  · obtain ⟨hflags, heven, -, hstart, -⟩ := h
    exact settled_updateDisplayArea (d := { s.ds with rangeY1 := y1, rangeY2 := y2 }) hB hflags heven hstart

include hB in
theorem settled_setMode (fires : Bool) (m : BitVec 8) (h : Settled B s.ds) : Settled B (s.setMode fires m).ds := by
  cases hg : modeGate fires m s with
  | false => rwa [setMode_of_closed hg]
  | true =>
    obtain ⟨-, heven, -, hstart, -⟩ := h
    rw [setMode_of_open hg]
    exact settled_updateDisplayArea (d := s.ds.writeMode m) hB ⟨rfl, rfl, rfl⟩ heven hstart

include hB in
theorem settled_refresh (h : Settled B s.ds) : Settled B s.refresh.ds := by
  obtain ⟨hflags, heven, hsize, -⟩ := h
  rw [refresh_eq]
  exact ⟨hflags, heven, hsize.trans (derivedSize_congr rfl rfl rfl rfl rfl rfl rfl), ⟨s.cfg.smooth, hB, rfl⟩,
    s.cfg.smooth, hB, rfl⟩

theorem settled_writeEnabled (e : Bool) {d : DisplayState} (h : Settled B d) : Settled B { d with enabled := e } := by
  obtain ⟨hflags, heven, hsize, hpairs⟩ := h
  exact ⟨hflags, heven, hsize.trans (derivedSize_congr rfl rfl rfl rfl rfl rfl rfl), hpairs⟩

include hB in
/-- The table of `Reset`, whatever value of `B` its start pair was computed under. -/
theorem settled_resetTable {n : NormPair} (hn : ∃ b, B b ∧ n = normStart ⟨0#10, 0#9⟩ b) :
    Settled B (DisplayState.resetTable n s.cfg.smooth) :=
  have hflags : false = (0#8)[3] ∧ false = (0#8)[4] ∧ false = (0#8)[5] := by decide
  have heven : (0#10)[0] = false := by decide
  ⟨hflags, heven, (derivedSize_reset rfl rfl rfl rfl rfl rfl rfl).symm, hn, s.cfg.smooth, hB, rfl⟩

include hB in
/-- `Reset` keeps it on a live state, and establishes it from anything while both marks are clear. -/
theorem settled_resetEngine (hmarks : MarksTogether s) (h : s.live = true → Settled B s.ds) :
    Settled B (s.resetEngine config.coldGatesFire).ds := by
  cases hl : s.live with
  | false =>
    have hs : s.startValid = false := by simpa [State.live, hmarks] using hl
    rw [resetEngine_of_marks_clear (hmarks.trans hs) hs]
    exact settled_resetTable hB ⟨s.cfg.smooth, hB, rfl⟩
  | true =>
    obtain ⟨hflags, -, -, hstart, -⟩ := h hl
    rw [resetEngine_of_flagsAgree hl hflags]
    refine settled_resetTable hB ?_
    split
    case isTrue => exact ⟨s.cfg.smooth, hB, rfl⟩
    case isFalse hzero => rwa [not_not.mp hzero] at hstart

include hB in
/-- Every operation that completes keeps it; the first `Reset` establishes it. -/
theorem settled_of_exec_next {i : Instr} {t : State} (hmarks : MarksTogether s) (h : s.live = true → Settled B s.ds)
    (he : exec i s = .next t) : Settled B t.ds := by
  obtain ⟨rfl, rfl⟩ | ⟨hl, ⟨x, y, rfl, rfl⟩ | ⟨a, b, rfl, rfl⟩ | ⟨a, b, rfl, rfl⟩ | ⟨m, rfl, rfl⟩ | ⟨rfl, rfl⟩ |
    ⟨e, rfl, rfl⟩⟩ := (exec_next_iff i s t).mp he
  case inl => exact settled_resetEngine hB hmarks h
  all_goals have hs := h hl
  · exact settled_setDisplayStart hB true x y hs
  · exact settled_setHorizontalRange hB a b hs
  · exact settled_setVerticalRange hB a b hs
  · exact settled_setMode hB true m hs
  · exact settled_refresh hB hs
  · exact settled_writeEnabled e hs

end procedures

/-! ### The invariant of the whole state -/

theorem inv_iff (s : State) : Inv s ↔ MarksTogether s ∧ (s.live = true → Settled (fun _ => True) s.ds) := by
  rw [Inv, settled_any_iff]

/-- Settles O48: an operation keeps the invariant of `DS` and leaves both marks set; every other action leaves `DS` and
the marks as they are. -/
theorem everyStepKeepsTheInvariant : Obligations.EveryStepKeepsTheInvariant := by
  intro s t hinv hstep
  obtain ⟨-, rfl⟩ | ⟨w, rest, -, he⟩ | ⟨b, rest, -, rfl⟩ | ⟨b, rest, -, rfl⟩ | ⟨v, rest, -, rfl⟩ |
    ⟨p, rest, -, -, rfl⟩ := step_next_cases hstep
  case inr.inl =>
    obtain ⟨hmarks, hds⟩ := (inv_iff s).mp hinv
    obtain ⟨hm, hs⟩ := marks_of_live (live_of_exec_next he)
    have hsettled : Settled (fun _ => True) t.ds :=
      settled_of_exec_next (s := { s with script := rest }) trivial hmarks hds he
    exact (inv_iff t).mpr ⟨hm.trans hs.symm, fun _ => hsettled⟩
  all_goals exact hinv

/-- The invariant with pairs that agree with `cfg.smooth`. -/
theorem settled_eq_of_inv_of_consistent {s : State} (hinv : Inv s) (hc : Consistent s) (hl : s.live = true) :
    Settled (· = s.cfg.smooth) s.ds := by
  obtain ⟨hflags, heven, hsize, -⟩ := hinv.2 hl
  exact ⟨hflags, heven, hsize, (pairsFrom_eq_iff _ _).mpr (hc hl)⟩

/-- An operation samples the present `cfg.smooth` and does not change it. -/
theorem consistent_of_exec_next {i : Instr} {s t : State} (hinv : Inv s) (hc : Consistent s)
    (he : exec i s = .next t) : Consistent t := by
  obtain ⟨-, -, -, -, -, -, -, -, hsmooth, -⟩ := fieldsHaveOnlyTheirWriters i s t he
  obtain ⟨-, -, -, hpairs⟩ : Settled (· = s.cfg.smooth) t.ds :=
    settled_of_exec_next (B := (· = s.cfg.smooth)) rfl hinv.1 (settled_eq_of_inv_of_consistent hinv hc) he
  intro _
  rw [hsmooth]
  exact (pairsFrom_eq_iff _ _).mp hpairs

/-- Settles O49: an operation by `consistent_of_exec_next`; a write of `cfg.smooth` writes the value it has; every other
action leaves `DS` and `cfg.smooth` as they are. -/
theorem everyStepKeepsThePairsConsistent : Obligations.EveryStepKeepsThePairsConsistent := by
  intro s t hinv hc hkeeps hstep
  obtain ⟨-, rfl⟩ | ⟨w, rest, -, he⟩ | ⟨b, rest, hscript, rfl⟩ | ⟨b, rest, -, rfl⟩ | ⟨v, rest, -, rfl⟩ |
    ⟨p, rest, -, -, rfl⟩ := step_next_cases hstep
  case inr.inl => exact consistent_of_exec_next (s := { s with script := rest }) hinv hc he
  case inr.inr.inl =>
    obtain rfl := hkeeps b rest hscript
    exact hc
  all_goals exact hc

/-- Settles O47: the three facts on two fixed states, evaluated. -/
theorem resetStateMeetsTheInvariant : Obligations.ResetStateMeetsTheInvariant :=
  ⟨by decide, by decide, by decide⟩

end Sys2Proof.Machine
end

section
/-!
PROOF. O28 to O31 (41_geometry_deriver.md R67 to R70, R75; D8, D13): the three fields of a binary32 word, the word of a
quotient by a power of two with its exact value, and from it the values and ranges of the normalized pairs.
-/

namespace Sys2Proof.Machine

/-! ### A word from its sign, exponent and fraction -/

/-- The binary32 word with a given sign, biased exponent and fraction. -/
def f32OfFields (neg : Bool) (e f : Nat) : F32 := BitVec.ofNat 32 ((if neg then 2 ^ 31 else 0) + e * 2 ^ 23 + f)

section fields

variable {neg : Bool} {e f : Nat} (he : e < 2 ^ 8) (hf : f < 2 ^ 23)

include he hf

theorem f32OfFields_toNat : (f32OfFields neg e f).toNat = (if neg then 2 ^ 31 else 0) + e * 2 ^ 23 + f := by
  rw [f32OfFields, BitVec.toNat_ofNat]
  cases neg <;> simp only [if_true, Bool.false_eq_true, if_false] <;> omega

theorem f32OfFields_exponent : ((f32OfFields neg e f).extractLsb' 23 8).toNat = e := by
  rw [BitVec.extractLsb'_toNat, f32OfFields_toNat he hf, Nat.shiftRight_eq_div_pow]
  cases neg <;> simp only [if_true, Bool.false_eq_true, if_false] <;> omega

theorem f32OfFields_fraction : ((f32OfFields neg e f).extractLsb' 0 23).toNat = f := by
  rw [BitVec.extractLsb'_toNat, f32OfFields_toNat he hf, Nat.shiftRight_zero]
  cases neg <;> simp only [if_true, Bool.false_eq_true, if_false] <;> omega

theorem f32OfFields_sign : (f32OfFields neg e f)[31] = neg := by
  rw [BitVec.getElem_eq_testBit_toNat, f32OfFields_toNat he hf, Nat.testBit_eq_decide_div_mod_eq]
  cases neg <;> simp only [if_true, Bool.false_eq_true, if_false, decide_eq_true_eq, decide_eq_false_iff_not] <;> omega

/-- The value of a normal word. -/
theorem f32Value_f32OfFields (hpos : 0 < e) :
    f32Value (f32OfFields neg e f) = (if neg then -1 else 1) * (((2 ^ 23 + f) * 2 ^ e : Nat) : ℚ) / 2 ^ 150 := by
  rw [f32Value, f32OfFields_exponent he hf, f32OfFields_fraction he hf, f32OfFields_sign he hf, if_neg hpos.ne']

theorem f32NormalOrZero_f32OfFields (hpos : 0 < e) (hfin : e < 255) :
    f32NormalOrZero (f32OfFields neg e f) = true := by
  rw [f32NormalOrZero, f32OfFields_exponent he hf, decide_eq_true hpos, decide_eq_true hfin, Bool.and_self,
    Bool.or_true]

end fields

/-! ### The word of a quotient by a power of two -/

/-- A number is its sign times its magnitude. -/
theorem sign_mul_natAbs (n : Int) : (if decide (n < 0) = true then (-1 : ℚ) else 1) * (n.natAbs : ℚ) = n := by
  rw [Nat.cast_natAbs]
  by_cases h : n < 0
  · rw [decide_eq_true h, if_pos rfl, abs_of_neg h]; push_cast; ring
  · rw [decide_eq_false h, if_neg Bool.false_ne_true, abs_of_nonneg (not_lt.mp h), one_mul]

section quotient

variable {n : Int} {k : Nat} (hne : n ≠ 0) (hn : n.natAbs < 2 ^ 24) (hk : k ≤ 126)

include hne in
theorem f32_of_ne_zero : f32 n (2 ^ k) = f32OfFields (decide (n < 0)) (127 + n.natAbs.log2 - k) (f32Fraction n) := by
  rw [f32, if_neg hne, f32OfFields, f32Exponent, Nat.log2_two_pow]
  simp only [decide_eq_true_eq]

include hne hn in
/-- A numerator below 2^24 has its leading bit at or below bit 23. -/
theorem log2_natAbs_le : n.natAbs.log2 ≤ 23 :=
  Nat.lt_succ_iff.mp ((Nat.log2_lt (Int.natAbs_ne_zero.mpr hne)).mpr hn)

include hne hn in
/-- The significand is the numerator moved up until its leading bit is bit 23. -/
theorem f32Fraction_spec :
    2 ^ 23 + f32Fraction n = n.natAbs * 2 ^ (23 - n.natAbs.log2) ∧ f32Fraction n < 2 ^ 23 := by
  have hlog := log2_natAbs_le hne hn
  have hshift : 2 ^ n.natAbs.log2 * 2 ^ (23 - n.natAbs.log2) = 2 ^ 23 := by
    rw [← pow_add, Nat.add_sub_cancel' hlog]
  have hlow : 2 ^ n.natAbs.log2 * 2 ^ (23 - n.natAbs.log2) ≤ n.natAbs * 2 ^ (23 - n.natAbs.log2) :=
    Nat.mul_le_mul_right _ (Nat.log2_self_le (Int.natAbs_ne_zero.mpr hne))
  have hhigh : n.natAbs * 2 ^ (23 - n.natAbs.log2) < 2 ^ (n.natAbs.log2 + 1) * 2 ^ (23 - n.natAbs.log2) :=
    Nat.mul_lt_mul_of_pos_right Nat.lt_log2_self (by positivity)
  rw [pow_succ, mul_right_comm, hshift] at hhigh
  rw [hshift] at hlow
  have hfrac : f32Fraction n = n.natAbs * 2 ^ (23 - n.natAbs.log2) - 2 ^ 23 := rfl
  omega

include hn hk

/-- R70: the quotient is exact, since moving the numerator up and taking the exponent down cancel. -/
theorem f32Value_f32 : f32Value (f32 n (2 ^ k)) = (n : ℚ) / 2 ^ k := by
  by_cases hne : n = 0
  · subst hne
    simp [f32, f32Value]
  · have hlog := log2_natAbs_le hne hn
    obtain ⟨hsig, hfrac⟩ := f32Fraction_spec hne hn
    have hmag : (2 ^ 23 + f32Fraction n) * 2 ^ (127 + n.natAbs.log2 - k) = n.natAbs * 2 ^ (150 - k) := by
      have hexp : 23 - n.natAbs.log2 + (127 + n.natAbs.log2 - k) = 150 - k := by omega
      rw [hsig, mul_assoc, ← pow_add, hexp]
    have hpow : (2 : ℚ) ^ 150 = 2 ^ (150 - k) * 2 ^ k := by rw [← pow_add, Nat.sub_add_cancel (by omega)]
    rw [f32_of_ne_zero hne, f32Value_f32OfFields (by omega) hfrac (by omega), hmag, Nat.cast_mul, ← mul_assoc,
      sign_mul_natAbs n, hpow, Nat.cast_pow, Nat.cast_ofNat, mul_comm, mul_div_mul_left _ _ (by positivity)]

theorem f32NormalOrZero_f32 : f32NormalOrZero (f32 n (2 ^ k)) = true := by
  by_cases hne : n = 0
  · subst hne
    rfl
  · have hlog := log2_natAbs_le hne hn
    obtain ⟨-, hfrac⟩ := f32Fraction_spec hne hn
    rw [f32_of_ne_zero hne]
    exact f32NormalOrZero_f32OfFields (by omega) hfrac (by omega) (by omega)

end quotient

/-- Different numerators over one divisor have different words: the values differ. -/
theorem f32_injective {m n : Int} {k : Nat} (hm : m.natAbs < 2 ^ 24) (hn : n.natAbs < 2 ^ 24) (hk : k ≤ 126)
    (h : f32 m (2 ^ k) = f32 n (2 ^ k)) : m = n := by
  have hvalue : (m : ℚ) / 2 ^ k = n / 2 ^ k := by rw [← f32Value_f32 hm hk, h, f32Value_f32 hn hk]
  exact_mod_cast (div_left_inj' (by positivity)).mp hvalue

/-- Settles O28: both divisors are powers of two, and the numerators are far below 2^24. -/
theorem normalizedValuesAreExact : Obligations.NormalizedValuesAreExact := by
  intro n d hlo hhi hd
  obtain ⟨k, hk, rfl⟩ : ∃ k, k ≤ 126 ∧ d = 2 ^ k := by
    obtain rfl | rfl := hd
    · exact ⟨9, by decide, rfl⟩
    · exact ⟨10, by decide, rfl⟩
  have hn : n.natAbs < 2 ^ 24 := by omega
  rw [Nat.cast_pow, Nat.cast_ofNat]
  exact ⟨f32Value_f32 hn hk, f32NormalOrZero_f32 hn hk, fun m hm hm' h => f32_injective (by omega) hn hk h⟩

/-! ### The values of the normalized pairs -/

/-- The values over the two sides of the canvas (R67). -/
theorem f32Value_f32_canvasW {n : Int} (hn : n.natAbs < 2 ^ 24) : f32Value (f32 n config.canvasW) = (n : ℚ) / 1024 :=
  (f32Value_f32 (k := 10) hn (by decide)).trans (by norm_num)

theorem f32Value_f32_canvasH {n : Int} (hn : n.natAbs < 2 ^ 24) : f32Value (f32 n config.canvasH) = (n : ℚ) / 512 :=
  (f32Value_f32 (k := 9) hn (by decide)).trans (by norm_num)

/-- R68 as rational numbers. -/
theorem f32Value_normStart (p : Start) (b : Bool) :
    f32Value (normStart p b).x = ((p.x.toNat : ℚ) + (if b then 1 else 0)) / 1024 ∧
      f32Value (normStart p b).y = ((p.y.toNat : ℚ) + (if b then 1 else 0)) / 512 := by
  have hx := p.x.isLt
  have hy := p.y.isLt
  have hvalue := And.intro (f32Value_f32_canvasW (n := p.x.toNat + (if b then 1 else 0)) (by split <;> omega))
    (f32Value_f32_canvasH (n := p.y.toNat + (if b then 1 else 0)) (by split <;> omega))
  push_cast at hvalue
  exact hvalue

/-- R69 as rational numbers, signed (D13). -/
theorem f32Value_normSize (p : Size) (b : Bool) :
    f32Value (normSize p b).x = ((p.w.toNat : ℚ) - (if b then 2 else 0)) / 1024 ∧
      f32Value (normSize p b).y = ((p.h.toNat : ℚ) - (if b then 2 else 0)) / 512 := by
  have hw := p.w.isLt
  have hh := p.h.isLt
  have hvalue := And.intro (f32Value_f32_canvasW (n := p.w.toNat - (if b then 2 else 0)) (by split <;> omega))
    (f32Value_f32_canvasH (n := p.h.toNat - (if b then 2 else 0)) (by split <;> omega))
  push_cast at hvalue
  exact hvalue

/-- An even start is at most 1022 (R17). -/
theorem toNat_of_even {x : BitVec 10} (h : x[0] = false) : x.toNat % 2 = 0 ∧ x.toNat ≤ 1022 := by
  rw [BitVec.getElem_eq_testBit_toNat, Nat.testBit_zero, decide_eq_false_iff_not] at h
  have hlt := x.isLt
  omega

/-- Settles O29: the values, the frame, and the corner cases of R68. -/
theorem normalizeStartDividesByTheCanvas : Obligations.NormalizeStartDividesByTheCanvas := by
  intro b d
  obtain ⟨hx, hy⟩ := f32Value_normStart d.start b
  refine ⟨hx, hy, rfl, fun heven _ => ?_, fun hmax hb => ?_⟩
  · obtain ⟨hmod, hle⟩ := toNat_of_even heven
    omega
  · rw [DisplayState.normalizeStart_startN, hy, hmax, hb]
    norm_num

/-- Settles O30: the values and the frame. -/
theorem normalizeSizeSubtractsWithoutAFloor : Obligations.NormalizeSizeSubtractsWithoutAFloor := by
  intro b d
  obtain ⟨hx, hy⟩ := f32Value_normSize d.size b
  exact ⟨hx, hy, rfl⟩

/-! ### The ranges between operations -/

/-- What smoothing adds to a start is 0 or 1, whatever the flag was. -/
theorem normStart_range {p : Start} (heven : p.x[0] = false) (b : Bool) :
    0 ≤ f32Value (normStart p b).x ∧ f32Value (normStart p b).x ≤ 1023 / 1024 ∧
      0 ≤ f32Value (normStart p b).y ∧ f32Value (normStart p b).y ≤ 1 := by
  have hx : (p.x.toNat : ℚ) ≤ 1022 := by exact_mod_cast (toNat_of_even heven).2
  have hy : (p.y.toNat : ℚ) ≤ 511 := by exact_mod_cast Nat.le_of_lt_succ p.y.isLt
  have hx0 : (0 : ℚ) ≤ p.x.toNat := Nat.cast_nonneg _
  have hy0 : (0 : ℚ) ≤ p.y.toNat := Nat.cast_nonneg _
  obtain ⟨ex, ey⟩ := f32Value_normStart p b
  rw [ex, ey]
  refine ⟨?_, ?_, ?_, ?_⟩ <;> split <;> linarith

/-- What smoothing takes from a size is 0 or 2, whatever the flag was. -/
theorem normSize_range {p : Size} (hw : p.w.toNat ≤ 852) (hh : p.h.toNat ≤ 628) (b : Bool) :
    -2 / 1024 ≤ f32Value (normSize p b).x ∧ f32Value (normSize p b).x ≤ 852 / 1024 ∧
      -2 / 512 ≤ f32Value (normSize p b).y ∧ f32Value (normSize p b).y ≤ 628 / 512 := by
  have hw' : (p.w.toNat : ℚ) ≤ 852 := by exact_mod_cast hw
  have hh' : (p.h.toNat : ℚ) ≤ 628 := by exact_mod_cast hh
  have hw0 : (0 : ℚ) ≤ p.w.toNat := Nat.cast_nonneg _
  have hh0 : (0 : ℚ) ≤ p.h.toNat := Nat.cast_nonneg _
  obtain ⟨ex, ey⟩ := f32Value_normSize p b
  rw [ex, ey]
  refine ⟨?_, ?_, ?_, ?_⟩ <;> split <;> linarith

/-- Settles O31: under the invariant each pair is the normalizer's value of a bounded start or size. -/
theorem normalizedRangesHold : Obligations.NormalizedRangesHold := by
  intro s hinv hl
  obtain ⟨-, heven, hsize, ⟨a, -, hstartN⟩, b, -, hsizeN⟩ := ((inv_iff s).mp hinv).2 hl
  obtain ⟨-, hw, hh⟩ := size_bounds_of_derived hsize
  obtain ⟨hx0, hx1, hy0, hy1⟩ := normStart_range heven a
  rw [hstartN, hsizeN]
  exact ⟨hx0, hx1, hy0, hy1, normSize_range hw hh b⟩

end Sys2Proof.Machine
end

section
/-!
PROOF. O33 and O34 (41_geometry_deriver.md R72, R76): a refresh after a toggle against a full recomputation, and the
document's four laws.
-/

namespace Sys2Proof.Machine

/-- A toggle and a refresh on a live state: both pairs under the new flag, nothing else of `DS`. -/
theorem exec_refresh_driveSmooth {s : State} (hl : s.live = true) (b : Bool) :
    exec .refreshSmoothingAdjustment (s.driveSmooth b) =
      .next { s.driveSmooth b with ds := s.ds.normalize b } :=
  refreshRecomputesBothPairs.1 (s.driveSmooth b) hl

/-- Settles O33: both sides normalize the derived size under the new flag. -/
theorem refreshEqualsFullRecomputation : Obligations.RefreshEqualsFullRecomputation :=
  fun _ b hl hsize =>
    ⟨_, exec_refresh_driveSmooth hl b, congrArg (normSize · b) hsize, hsize, rfl⟩

/-! ### The document's laws -/

/-- R76 (a): the height before the doubling does not see the flag. -/
theorem derivedHeight_interlaced (d : DisplayState) :
    derivedHeight { d with isInterlaced := true } = 2 * derivedHeight { d with isInterlaced := false } := by
  rw [derivedHeight_eq, derivedHeight_eq, interlaced_true, interlaced_false, mul_comm]

/-- R76 (c): an end at the clamp or beyond is the clamp. -/
theorem roundedX_of_ge {x cycles : Nat} (div : Nat) (h : cycles ≤ x) :
    roundedX x cycles div = roundedX cycles cycles div := by
  rw [roundedX, roundedX, min_eq_right h, min_self]

theorem derivedWidth_of_far_rangeX2 {d : DisplayState} (h : (standard d.isPal).cyclesPerScanline ≤ d.rangeX2.toNat) :
    derivedWidth d =
      derivedWidth { d with rangeX2 := BitVec.ofNat 12 (standard d.isPal).cyclesPerScanline } := by
  have hfit : (BitVec.ofNat 12 (standard d.isPal).cyclesPerScanline).toNat = (standard d.isPal).cyclesPerScanline :=
    Nat.mod_eq_of_lt ((cyclesPerScanline_le d.isPal).trans_lt (by decide))
  rw [derivedWidth, derivedWidth, hfit, roundedX_of_ge _ h]

/-- R76 (d): the refresh under the flag a state agrees with restores its pairs. -/
theorem normalize_normalize (a b : Bool) (d : DisplayState) : (d.normalize a).normalize b = d.normalize b := by
  simp only [DisplayState.normalize]

theorem normalize_of_agreeing {d : DisplayState} {b : Bool} (hstart : d.startN = normStart d.start b)
    (hsize : d.sizeN = normSize d.size b) : d.normalize b = d := by
  rw [DisplayState.normalize, ← hstart, ← hsize]

/-- Settles O34: the four laws of R76. -/
theorem documentLawsHold : Obligations.DocumentLawsHold := by
  refine ⟨fun b d => ?interlace, fun b d => ?align, fun b d h => ?clamp, fun s hl hc => ?toggle⟩
  case interlace =>
    have htrue := derivedSize_h_toNat { d with isInterlaced := true }
    have hfalse := derivedSize_h_toNat { d with isInterlaced := false }
    have hdouble := derivedHeight_interlaced d
    simp only [DisplayState.updateDisplayArea_size]
    omega
  case align =>
    rw [DisplayState.updateDisplayArea_size, derivedSize_w_toNat]
    exact dvd_pixelWidth _ _
  case clamp => exact congrArg (BitVec.ofNat 10) (derivedWidth_of_far_rangeX2 h)
  case toggle =>
    obtain ⟨hstart, hsize⟩ := hc hl
    have hback : (s.ds.normalize (!s.cfg.smooth)).normalize s.cfg.smooth = s.ds := by
      rw [normalize_normalize, normalize_of_agreeing hstart hsize]
    refine ⟨_, exec_refresh_driveSmooth hl _, ?_⟩
    exact (exec_refresh_driveSmooth (s := { s.driveSmooth (!s.cfg.smooth) with ds := _ }) hl _).trans
      (congrArg (fun d => Host.Outcome.next { s with ds := d }) hback)

end Sys2Proof.Machine
end
